-- ==== Sys2Proof/Word.lean ====
section
/-! DEFINITION. The two machine words: the byte, which is the unit of memory and the width of A, X, Y, SP and P,
and the 16-bit word, which is the width of PC and of an address (R6, R50). -/

namespace Sys2Proof

/-- An 8-bit byte: a memory location, a working register, an operand byte (R6). -/
abbrev Byte := BitVec 8

/-- A 16-bit word: an address or the program counter (R6). -/
abbrev Word := BitVec 16

end Sys2Proof
end

