-- ==== Sys2Proof/Config.lean ====
section
/-! DEFINITION. What an implementation or a platform fixes (the parameters of R7), and the free values: constants
without a body, of which no proof can know the value. -/

namespace Sys2Proof

/-- How the operand byte of a branch becomes a displacement, `REL_DECODE` (R83, R111, D1). -/
inductive RelDecode where
  /-- The spec's reading: two's complement, -128 to +127. -/
  | twosComplement
  /-- The source's prose: bit 7 a sign, bits 6 to 0 a magnitude, -127 to +127. -/
  | signMagnitude
  deriving DecidableEq, Repr

/-- Whether bit 4 of P is a stored bit, `B_MODEL` (R32, D15). -/
inductive BModel where
  /-- The source's code: BRK sets P.B, PHP pushes it as it is, PLP and RTI load it. -/
  | stored
  /-- The alternative: bit 4 exists only in the byte pushed, 1 from BRK and PHP, and PLP and RTI ignore it. -/
  | pushedOnly
  deriving DecidableEq, Repr

/-- What ADC and SBC do in decimal mode with a digit above 9, `DECIMAL_INVALID_BCD` (R122, R123, D20). -/
inductive InvalidBcd where
  /-- The model gives the step no meaning. -/
  | refuse
  /-- The formulas of R122 and R123 apply as they stand. -/
  | sourceFormula
  deriving DecidableEq, Repr

/-- A run of addresses, both ends included. The platform's sets of addresses (R62) are lists of these. -/
structure Region where
  first : Word
  last  : Word
  deriving DecidableEq, Repr

/-- The parameters of the step relation (R7, R43). A state carries one and no step changes it (entry 4), so a
statement about every state is a statement for every value of every parameter. -/
structure Config where
  /-- `HAS_ROR` (R5, R269, D22): whether the five ROR opcodes are instructions. -/
  hasRor         : Bool
  /-- `REL_DECODE` (D1). -/
  relDecode      : RelDecode
  /-- `JMP_IND_PAGE_WRAP` (R110, D8): the pointer of JMP indirect wraps inside its page. -/
  jmpIndPageWrap : Bool
  /-- `B_MODEL` (D15). -/
  bModel         : BModel
  /-- `DECIMAL_INVALID_BCD` (D20). -/
  invalidBcd     : InvalidBcd
  /-- `HAS_IRQ` (R229, D12). -/
  hasIrq         : Bool
  /-- `HAS_NMI` (R230, D13). -/
  hasNmi         : Bool
  /-- The addresses that are not `Writable` (R57, R62, D19): a store there changes nothing. -/
  readOnly       : List Region
  /-- `IoRegion` (R62, D19): addresses where a device answers, of which the spec gives no meaning. -/
  ioRegion       : List Region
  deriving DecidableEq, Repr

/-- The byte that the location at an address holds before anything has been stored there and where the platform's
image places nothing: the spec leaves it unspecified (R62, R262, U7). A free value, one for each address (entry 3). -/
opaque Config.unwrittenByte : Nat → Byte

/-- The unspecified bytes that a RESET event leaves in registers (R42, R260, R261), drawn in order. A free value
(entry 14). -/
opaque Config.freeByte : Nat → Byte

/-- How many clock cycles a RESET event takes: the spec gives no count (R271, R274). A free value (entry 22); the RESET
that starts a run adds none. -/
opaque Config.resetCycles : Nat

end Sys2Proof
end

