-- ==== Sys2Proof/Machine/State.lean ====
section
/-! DEFINITION. The machine's state as plain data (R20, R40, R41), the reasons a step can stop, and the state right
after reset. -/

namespace Sys2Proof.Machine

/-- The seven flags of P (R27). Bit 5 has no storage: it reads 1 always (R33), which `Status.byteWith` supplies. -/
structure Status where
  /-- Bit 7, sign (R35). -/
  n : Bool
  /-- Bit 6, overflow (R34). -/
  v : Bool
  /-- Bit 4, break (R32): the stored bit of `B_MODEL = stored`; under `pushedOnly` nothing reads or writes it. -/
  b : Bool
  /-- Bit 3, decimal mode (R31). -/
  d : Bool
  /-- Bit 2, interrupt disable (R30). -/
  i : Bool
  /-- Bit 1, zero (R29). -/
  z : Bool
  /-- Bit 0, carry (R28). -/
  c : Bool
  deriving DecidableEq, Repr

/-- Memory: the locations that hold a placed or stored byte, addresses strictly rising (`Memory.wf`). A location that
is not listed holds no written byte (R62). -/
abbrev Memory := List Host.Cell

/-- What the environment does at one instruction boundary (R233): the level it drives on the interrupt request input,
whether it produces an NMI edge, whether it requests RESET. -/
structure Boundary where
  irq     : Bool
  nmiEdge : Bool
  reset   : Bool
  deriving DecidableEq, Repr

/-- The state of the machine. The fields from `a` to `nmiPending` are the spec's; the rest are the model's own. -/
structure State where
  /-- The accumulator (R21). -/
  a          : Byte
  /-- The X index register (R22). -/
  x          : Byte
  /-- The Y index register (R23). -/
  y          : Byte
  /-- The stack pointer (R24). -/
  sp         : Byte
  /-- The status register P (R27). -/
  p          : Status
  /-- The program counter: at a boundary, the address of the next opcode byte (R25). -/
  pc         : Word
  /-- The memory (R40). -/
  mem        : Memory
  /-- The level of the interrupt request input (R41, R229). -/
  irqLine    : Bool
  /-- The latch of the non-maskable interrupt (R41, R230). -/
  nmiPending : Bool
  /-- The environment's inputs at the coming boundaries, the next one first (R43). After the last of them the request
  line keeps its level and nothing else arrives (entry 16). -/
  env        : List Boundary
  /-- The parameters (R7, R43); no step changes them (entry 4). -/
  cfg        : Config
  /-- The ghost total of clock cycles (R274), read by nothing (entry 22). -/
  clk        : Nat
  /-- How many bytes of `Config.freeByte` have been drawn (entry 29). -/
  freeCount  : Nat
  deriving DecidableEq, Repr

/-- The reasons a step faults: none. The machine has no fault (R56, R63, R222): every address exists, no access is
checked, and the one synchronous exception, Break, is taken as a next state. -/
inductive Fault where
  deriving DecidableEq, Repr

/-- The reasons a step has no meaning, the spec's `refuse` (R10). All are safe: nothing is claimed of what follows. -/
inductive Refusal where
  /-- Raised by an arm of `exec` whose instruction has no meaning yet (there is none). Safe. -/
  | notModelled (mnemonic : String)
  /-- Raised by the fetch of one of the 105 Future Expansion opcodes, or of a ROR opcode where `HAS_ROR` is false
  (R88, R89, D10): the source gives them no behaviour. Safe. -/
  | futureExpansion (op : Byte)
  /-- Raised by ADC and SBC in decimal mode when the accumulator or the operand has a digit above 9 and
  `DECIMAL_INVALID_BCD` is `refuse` (R122, R123, D20). Safe. -/
  | invalidBcd (a m : Byte)
  /-- Raised by any read, fetch and stack and vector reads included, of an address inside `IoRegion` (R56, D19): the
  spec does not say what the device answers. Safe. -/
  | ioRead (addr : Word)
  /-- Raised by any write to an address inside `IoRegion` (R57, D19). Safe. -/
  | ioWrite (addr : Word)
  deriving DecidableEq, Repr

/-- The parameters of `State.reset`: the values of R7, and where R7 leaves a parameter open or refuses ordinary data,
the value of entry 5. -/
def configAtReset : Config where
  hasRor := true
  relDecode := .twosComplement
  jmpIndPageWrap := true
  bModel := .stored
  invalidBcd := .sourceFormula
  hasIrq := true
  hasNmi := true
  readOnly := []
  ioRegion := []

/-- The machine right after reset with no platform image placed (R42, R260): I = 1, `nmi_pending` = 0, memory with
nothing listed. The registers that R42 leaves unspecified hold the values of entry 1, PC that of entry 2. -/
def State.reset : State where
  a := 0
  x := 0
  y := 0
  sp := 0
  p := ⟨false, false, false, false, true, false, false⟩
  pc := 0
  mem := []
  irqLine := false
  nmiPending := false
  env := []
  cfg := configAtReset
  clk := 0
  freeCount := 0

end Sys2Proof.Machine
end

