-- ==== Sys2Proof/Machine/Flags.lean ====
section
/-! DEFINITION. P as a byte, and every flag computation of the spec: pure functions of bytes and flags. -/

namespace Sys2Proof.Machine

/-! ### P as a byte (R27, R33, R188) -/

/-- The byte of P with a given bit 4: N V 1 bit4 D I Z C from bit 7 down; bit 5 is always 1 (R33). -/
def Status.byteWith (p : Status) (bit4 : Bool) : Byte :=
  BitVec.ofNat 8 (p.n.toNat * 128 + p.v.toNat * 64 + 32 + bit4.toNat * 16 + p.d.toNat * 8 + p.i.toNat * 4
    + p.z.toNat * 2 + p.c.toNat)

/-- The byte of P with its stored B (R27). -/
def Status.toByte (p : Status) : Byte := p.byteWith p.b

/-- The flags of a byte; its bit 5 is ignored (R33, D29). -/
def Status.ofByte (v : Byte) : Status where
  n := v.getLsbD 7
  v := v.getLsbD 6
  b := v.getLsbD 4
  d := v.getLsbD 3
  i := v.getLsbD 2
  z := v.getLsbD 1
  c := v.getLsbD 0

/-- The byte that PHP and BRK push: bit 4 is the stored B, or 1 under `pushedOnly` (R188, R223, D15). -/
def pushedStatus (model : BModel) (p : Status) : Byte :=
  match model with
  | .stored => p.toByte
  | .pushedOnly => p.byteWith true

/-- P after PLP or RTI pulls a byte: all seven flags from it, or all but B under `pushedOnly` (R189, R191, D15). -/
def pulledStatus (model : BModel) (p : Status) (v : Byte) : Status :=
  match model with
  | .stored => Status.ofByte v
  | .pushedOnly => { Status.ofByte v with b := p.b }

/-- P as BRK leaves it before its push: B set, or unchanged under `pushedOnly` (R223, D15). -/
def breakStatus (model : BModel) (p : Status) : Status :=
  match model with
  | .stored => { p with b := true }
  | .pushedOnly => p

/-! ### N and Z (R36) -/

/-- `setNZ`: N is bit 7 of the byte, Z whether it is zero; no other flag (R36). -/
def setNZ (p : Status) (v : Byte) : Status := { p with n := v.getLsbD 7, z := v == 0 }

/-- `setNZ` and the carry: what the compares, shifts and rotates write (R37). -/
def setNZC (p : Status) (v : Byte) (c : Bool) : Status := { setNZ p v with c := c }

/-! ### Add and subtract (R122, R123) -/

/-- A result byte with the four flags that ADC and SBC write. -/
structure Sum where
  value : Byte
  n : Bool
  v : Bool
  z : Bool
  c : Bool
  deriving DecidableEq, Repr

/-- Bit 7 of a number. -/
def bit7 (t : Nat) : Bool := decide (t / 128 % 2 = 1)

/-- Signed overflow of an addition: the operands agree in bit 7 and the sum `t` does not (R122). -/
def addOverflow (a m : Byte) (t : Nat) : Bool :=
  bit7 a.toNat == bit7 m.toNat && bit7 a.toNat != bit7 t

/-- ADC with D = 0 (R122). -/
def addBinary (a m : Byte) (c : Bool) : Sum :=
  let t := a.toNat + m.toNat + c.toNat
  { value := BitVec.ofNat 8 t
    n := bit7 t
    v := addOverflow a m t
    z := t % 256 == 0
    c := decide (t > 0xFF) }

/-- ADC with D = 1 (R122, D21): Z from the binary sum, N and V after the low-digit correction, C after the high. -/
def addDecimal (a m : Byte) (c : Bool) : Sum :=
  let t := a.toNat + m.toNat + c.toNat
  let t6 := if a.toNat % 16 + m.toNat % 16 + c.toNat > 9 then t + 6 else t
  let t60 := if t6 > 0x99 then t6 + 0x60 else t6
  { value := BitVec.ofNat 8 t60
    n := bit7 t6
    v := addOverflow a m t6
    z := t % 256 == 0
    c := decide (t60 > 0x99) }

/-- The borrow into a subtraction: the complement of the carry (R123). -/
def borrow (c : Bool) : Nat := (!c).toNat

/-- The binary difference `A - M - b` (R123), from -256 to 255. -/
def difference (a m : Byte) (c : Bool) : Int := (a.toNat : Int) - m.toNat - borrow c

/-- Signed overflow of a subtraction with 8-bit result `r`: the operands differ in bit 7 and so do `A` and `r` (R123). -/
def subOverflow (a m r : Byte) : Bool :=
  a.getLsbD 7 != r.getLsbD 7 && a.getLsbD 7 != m.getLsbD 7

/-- SBC with the difference `t` that becomes A and C; N, V and Z are those of the binary difference (R123). -/
def subtractTo (a m : Byte) (c : Bool) (t : Int) : Sum :=
  let r := BitVec.ofInt 8 (difference a m c)
  { value := BitVec.ofInt 8 t
    n := r.getLsbD 7
    v := subOverflow a m r
    z := r == 0
    c := decide (0 ≤ t ∧ t < 256) }

/-- SBC with D = 0 (R123). -/
def subBinary (a m : Byte) (c : Bool) : Sum := subtractTo a m c (difference a m c)

/-- The decimal correction of a difference (R123): the low digits are compared as signed numbers (entry 19). -/
def decimalDifference (a m : Byte) (c : Bool) : Int :=
  let t := difference a m c
  let t6 := if ((a.toNat % 16 : Nat) : Int) - borrow c < ((m.toNat % 16 : Nat) : Int) then t - 6 else t
  if t6 < 0 ∨ t6 > 0x99 then t6 - 0x60 else t6

/-- SBC with D = 1 (R123, D21). -/
def subDecimal (a m : Byte) (c : Bool) : Sum := subtractTo a m c (decimalDifference a m c)

/-- Both digits of a byte are 0 to 9 (R12, R122). -/
def validBcd (v : Byte) : Bool := decide (v.toNat % 16 ≤ 9) && decide (v.toNat / 16 ≤ 9)

/-- P after ADC or SBC: N, V, Z and C written, I, D and B unchanged (R122, R123). -/
def setSum (p : Status) (r : Sum) : Status := { p with n := r.n, v := r.v, z := r.z, c := r.c }

/-! ### Compare and bit test (R150, R151, R168, R169) -/

/-- P after a compare of a register with a byte: C when the register is at least the byte, N and Z from the 8-bit
difference (R150). -/
def compareFlags (p : Status) (r m : Byte) : Status := setNZC p (r - m) (decide (m.toNat ≤ r.toNat))

/-- P after BIT: N and V from bits 7 and 6 of the byte, Z from its AND with the accumulator (R151). -/
def bitFlags (p : Status) (a m : Byte) : Status :=
  { p with n := m.getLsbD 7, v := m.getLsbD 6, z := (a &&& m) == 0 }

/-! ### Shifts and rotates (R200 to R203) -/

/-- A shifted byte and the bit that left it. -/
structure Shifted where
  value : Byte
  carry : Bool
  deriving DecidableEq, Repr

/-- LSR: 0 enters bit 7, bit 0 leaves (R200); the carry in is not used. -/
def shiftRight (s : Byte) (_c : Bool) : Shifted := ⟨BitVec.ofNat 8 (s.toNat / 2), s.getLsbD 0⟩

/-- ASL: 0 enters bit 0, bit 7 leaves (R201); the carry in is not used. -/
def shiftLeft (s : Byte) (_c : Bool) : Shifted := ⟨BitVec.ofNat 8 (s.toNat * 2), s.getLsbD 7⟩

/-- ROL: the carry enters bit 0, bit 7 leaves (R202). -/
def rotateLeft (s : Byte) (c : Bool) : Shifted :=
  let w := s.toNat * 2 + c.toNat
  ⟨BitVec.ofNat 8 w, decide (w > 255)⟩

/-- ROR: the carry enters bit 7, bit 0 leaves (R203). -/
def rotateRight (s : Byte) (c : Bool) : Shifted :=
  let w := s.toNat + 256 * c.toNat
  ⟨BitVec.ofNat 8 (w / 2), decide (w % 2 = 1)⟩

end Sys2Proof.Machine
end

