-- ==== Sys2Proof/Machine/Memory.lean ====
section
/-! DEFINITION. Memory as a list of cells in one canonical form: reading a cell, writing one, and the form itself. -/

namespace Sys2Proof.Machine

/-- The byte listed at an address; none where nothing has been placed or stored. -/
def Memory.read (addr : Nat) : Memory → Option Byte
  | [] => none
  | (b, v) :: rest => if b = addr then some v else Memory.read addr rest

/-- Store a byte at an address, keeping the addresses strictly rising. An unlisted address holds no written byte, so
no byte stored equals what an unlisted address holds and none is left out. -/
def Memory.write (addr : Nat) (v : Byte) : Memory → Memory
  | [] => [(addr, v)]
  | (b, w) :: rest =>
    if addr < b then (addr, v) :: (b, w) :: rest
    else if addr = b then (addr, v) :: rest
    else (b, w) :: Memory.write addr v rest

/-- Every listed address is at least `low`, below 65536, and above the one before it. -/
def Memory.rising (low : Nat) : Memory → Bool
  | [] => true
  | (b, _) :: rest => decide (low ≤ b) && decide (b < 65536) && Memory.rising (b + 1) rest

/-- The canonical form: addresses strictly rising, all inside the address space (R50). -/
def Memory.wf (m : Memory) : Bool := Memory.rising 0 m

/-- The canonical memory that holds the given cells, a later one replacing an earlier one at its address; addresses
are taken modulo 65536 (R50). -/
def Memory.ofCells (cells : List Host.Cell) : Memory :=
  cells.foldl (fun m c => Memory.write (c.1 % 65536) c.2 m) []

end Sys2Proof.Machine
end

