-- ==== Sys2Proof/Syntax.lean ====
section
/-! DEFINITION. The instructions: one constructor of `Instr` for each of the 151 rows of spec/opcode_table.json
(R80 to R87), with the operand bytes of its format under the names of R81; the 56 mnemonics; the operand forms. -/

namespace Sys2Proof

/-- The instructions, one constructor per opcode (R85, R86). The suffix names the format of R81: `Imm` immediate,
`Zp` zero page, `ZpX`, `ZpY` zero page indexed, `Abs` absolute, `AbsX`, `AbsY` absolute indexed, `IndX` (zp,X), `IndY`
(zp),Y, `Ind` (abs), `Acc` accumulator; none: implied or relative, and JSR, whose one form is absolute. -/
inductive Instr where
  /-- `LDA #imm8`, opcode A9 (R120). -/
  | ldaImm (imm8 : Byte)
  /-- `LDA zp8`, opcode A5 (R120). -/
  | ldaZp (zp8 : Byte)
  /-- `LDA zp8,X`, opcode B5 (R120). -/
  | ldaZpX (zp8 : Byte)
  /-- `LDA addr`, opcode AD (R120). -/
  | ldaAbs (lo8 : Byte) (hi8 : Byte)
  /-- `LDA addr,X`, opcode BD (R120). -/
  | ldaAbsX (lo8 : Byte) (hi8 : Byte)
  /-- `LDA addr,Y`, opcode B9 (R120). -/
  | ldaAbsY (lo8 : Byte) (hi8 : Byte)
  /-- `LDA (zp8,X)`, opcode A1 (R120). -/
  | ldaIndX (zp8 : Byte)
  /-- `LDA (zp8),Y`, opcode B1 (R120). -/
  | ldaIndY (zp8 : Byte)
  /-- `STA zp8`, opcode 85 (R121). -/
  | staZp (zp8 : Byte)
  /-- `STA zp8,X`, opcode 95 (R121). -/
  | staZpX (zp8 : Byte)
  /-- `STA addr`, opcode 8D (R121). -/
  | staAbs (lo8 : Byte) (hi8 : Byte)
  /-- `STA addr,X`, opcode 9D (R121). -/
  | staAbsX (lo8 : Byte) (hi8 : Byte)
  /-- `STA addr,Y`, opcode 99 (R121). -/
  | staAbsY (lo8 : Byte) (hi8 : Byte)
  /-- `STA (zp8,X)`, opcode 81 (R121). -/
  | staIndX (zp8 : Byte)
  /-- `STA (zp8),Y`, opcode 91 (R121). -/
  | staIndY (zp8 : Byte)
  /-- `ADC #imm8`, opcode 69 (R122). -/
  | adcImm (imm8 : Byte)
  /-- `ADC zp8`, opcode 65 (R122). -/
  | adcZp (zp8 : Byte)
  /-- `ADC zp8,X`, opcode 75 (R122). -/
  | adcZpX (zp8 : Byte)
  /-- `ADC addr`, opcode 6D (R122). -/
  | adcAbs (lo8 : Byte) (hi8 : Byte)
  /-- `ADC addr,X`, opcode 7D (R122). -/
  | adcAbsX (lo8 : Byte) (hi8 : Byte)
  /-- `ADC addr,Y`, opcode 79 (R122). -/
  | adcAbsY (lo8 : Byte) (hi8 : Byte)
  /-- `ADC (zp8,X)`, opcode 61 (R122). -/
  | adcIndX (zp8 : Byte)
  /-- `ADC (zp8),Y`, opcode 71 (R122). -/
  | adcIndY (zp8 : Byte)
  /-- `SBC #imm8`, opcode E9 (R123). -/
  | sbcImm (imm8 : Byte)
  /-- `SBC zp8`, opcode E5 (R123). -/
  | sbcZp (zp8 : Byte)
  /-- `SBC zp8,X`, opcode F5 (R123). -/
  | sbcZpX (zp8 : Byte)
  /-- `SBC addr`, opcode ED (R123). -/
  | sbcAbs (lo8 : Byte) (hi8 : Byte)
  /-- `SBC addr,X`, opcode FD (R123). -/
  | sbcAbsX (lo8 : Byte) (hi8 : Byte)
  /-- `SBC addr,Y`, opcode F9 (R123). -/
  | sbcAbsY (lo8 : Byte) (hi8 : Byte)
  /-- `SBC (zp8,X)`, opcode E1 (R123). -/
  | sbcIndX (zp8 : Byte)
  /-- `SBC (zp8),Y`, opcode F1 (R123). -/
  | sbcIndY (zp8 : Byte)
  /-- `AND #imm8`, opcode 29 (R124). -/
  | andImm (imm8 : Byte)
  /-- `AND zp8`, opcode 25 (R124). -/
  | andZp (zp8 : Byte)
  /-- `AND zp8,X`, opcode 35 (R124). -/
  | andZpX (zp8 : Byte)
  /-- `AND addr`, opcode 2D (R124). -/
  | andAbs (lo8 : Byte) (hi8 : Byte)
  /-- `AND addr,X`, opcode 3D (R124). -/
  | andAbsX (lo8 : Byte) (hi8 : Byte)
  /-- `AND addr,Y`, opcode 39 (R124). -/
  | andAbsY (lo8 : Byte) (hi8 : Byte)
  /-- `AND (zp8,X)`, opcode 21 (R124). -/
  | andIndX (zp8 : Byte)
  /-- `AND (zp8),Y`, opcode 31 (R124). -/
  | andIndY (zp8 : Byte)
  /-- `ORA #imm8`, opcode 09 (R125). -/
  | oraImm (imm8 : Byte)
  /-- `ORA zp8`, opcode 05 (R125). -/
  | oraZp (zp8 : Byte)
  /-- `ORA zp8,X`, opcode 15 (R125). -/
  | oraZpX (zp8 : Byte)
  /-- `ORA addr`, opcode 0D (R125). -/
  | oraAbs (lo8 : Byte) (hi8 : Byte)
  /-- `ORA addr,X`, opcode 1D (R125). -/
  | oraAbsX (lo8 : Byte) (hi8 : Byte)
  /-- `ORA addr,Y`, opcode 19 (R125). -/
  | oraAbsY (lo8 : Byte) (hi8 : Byte)
  /-- `ORA (zp8,X)`, opcode 01 (R125). -/
  | oraIndX (zp8 : Byte)
  /-- `ORA (zp8),Y`, opcode 11 (R125). -/
  | oraIndY (zp8 : Byte)
  /-- `EOR #imm8`, opcode 49 (R126). -/
  | eorImm (imm8 : Byte)
  /-- `EOR zp8`, opcode 45 (R126). -/
  | eorZp (zp8 : Byte)
  /-- `EOR zp8,X`, opcode 55 (R126). -/
  | eorZpX (zp8 : Byte)
  /-- `EOR addr`, opcode 4D (R126). -/
  | eorAbs (lo8 : Byte) (hi8 : Byte)
  /-- `EOR addr,X`, opcode 5D (R126). -/
  | eorAbsX (lo8 : Byte) (hi8 : Byte)
  /-- `EOR addr,Y`, opcode 59 (R126). -/
  | eorAbsY (lo8 : Byte) (hi8 : Byte)
  /-- `EOR (zp8,X)`, opcode 41 (R126). -/
  | eorIndX (zp8 : Byte)
  /-- `EOR (zp8),Y`, opcode 51 (R126). -/
  | eorIndY (zp8 : Byte)
  /-- `SEC`, opcode 38 (R130). -/
  | sec
  /-- `CLC`, opcode 18 (R131). -/
  | clc
  /-- `SEI`, opcode 78 (R132). -/
  | sei
  /-- `CLI`, opcode 58 (R133). -/
  | cli
  /-- `SED`, opcode F8 (R134). -/
  | sed
  /-- `CLD`, opcode D8 (R135). -/
  | cld
  /-- `CLV`, opcode B8 (R136). -/
  | clv
  /-- `BMI rel8`, opcode 30 (R141). -/
  | bmi (rel8 : Byte)
  /-- `BPL rel8`, opcode 10 (R142). -/
  | bpl (rel8 : Byte)
  /-- `BCC rel8`, opcode 90 (R143). -/
  | bcc (rel8 : Byte)
  /-- `BCS rel8`, opcode B0 (R144). -/
  | bcs (rel8 : Byte)
  /-- `BEQ rel8`, opcode F0 (R145). -/
  | beq (rel8 : Byte)
  /-- `BNE rel8`, opcode D0 (R146). -/
  | bne (rel8 : Byte)
  /-- `BVS rel8`, opcode 70 (R147). -/
  | bvs (rel8 : Byte)
  /-- `BVC rel8`, opcode 50 (R148). -/
  | bvc (rel8 : Byte)
  /-- `JMP addr`, opcode 4C (R149). -/
  | jmpAbs (lo8 : Byte) (hi8 : Byte)
  /-- `JMP (addr)`, opcode 6C (R149). -/
  | jmpInd (lo8 : Byte) (hi8 : Byte)
  /-- `CMP #imm8`, opcode C9 (R150). -/
  | cmpImm (imm8 : Byte)
  /-- `CMP zp8`, opcode C5 (R150). -/
  | cmpZp (zp8 : Byte)
  /-- `CMP zp8,X`, opcode D5 (R150). -/
  | cmpZpX (zp8 : Byte)
  /-- `CMP addr`, opcode CD (R150). -/
  | cmpAbs (lo8 : Byte) (hi8 : Byte)
  /-- `CMP addr,X`, opcode DD (R150). -/
  | cmpAbsX (lo8 : Byte) (hi8 : Byte)
  /-- `CMP addr,Y`, opcode D9 (R150). -/
  | cmpAbsY (lo8 : Byte) (hi8 : Byte)
  /-- `CMP (zp8,X)`, opcode C1 (R150). -/
  | cmpIndX (zp8 : Byte)
  /-- `CMP (zp8),Y`, opcode D1 (R150). -/
  | cmpIndY (zp8 : Byte)
  /-- `BIT zp8`, opcode 24 (R151). -/
  | bitZp (zp8 : Byte)
  /-- `BIT addr`, opcode 2C (R151). -/
  | bitAbs (lo8 : Byte) (hi8 : Byte)
  /-- `LDX #imm8`, opcode A2 (R160). -/
  | ldxImm (imm8 : Byte)
  /-- `LDX zp8`, opcode A6 (R160). -/
  | ldxZp (zp8 : Byte)
  /-- `LDX zp8,Y`, opcode B6 (R160). -/
  | ldxZpY (zp8 : Byte)
  /-- `LDX addr`, opcode AE (R160). -/
  | ldxAbs (lo8 : Byte) (hi8 : Byte)
  /-- `LDX addr,Y`, opcode BE (R160). -/
  | ldxAbsY (lo8 : Byte) (hi8 : Byte)
  /-- `LDY #imm8`, opcode A0 (R161). -/
  | ldyImm (imm8 : Byte)
  /-- `LDY zp8`, opcode A4 (R161). -/
  | ldyZp (zp8 : Byte)
  /-- `LDY zp8,X`, opcode B4 (R161). -/
  | ldyZpX (zp8 : Byte)
  /-- `LDY addr`, opcode AC (R161). -/
  | ldyAbs (lo8 : Byte) (hi8 : Byte)
  /-- `LDY addr,X`, opcode BC (R161). -/
  | ldyAbsX (lo8 : Byte) (hi8 : Byte)
  /-- `STX zp8`, opcode 86 (R162). -/
  | stxZp (zp8 : Byte)
  /-- `STX zp8,Y`, opcode 96 (R162). -/
  | stxZpY (zp8 : Byte)
  /-- `STX addr`, opcode 8E (R162). -/
  | stxAbs (lo8 : Byte) (hi8 : Byte)
  /-- `STY zp8`, opcode 84 (R163). -/
  | styZp (zp8 : Byte)
  /-- `STY zp8,X`, opcode 94 (R163). -/
  | styZpX (zp8 : Byte)
  /-- `STY addr`, opcode 8C (R163). -/
  | styAbs (lo8 : Byte) (hi8 : Byte)
  /-- `INX`, opcode E8 (R164). -/
  | inx
  /-- `INY`, opcode C8 (R165). -/
  | iny
  /-- `DEX`, opcode CA (R166). -/
  | dex
  /-- `DEY`, opcode 88 (R167). -/
  | dey
  /-- `CPX #imm8`, opcode E0 (R168). -/
  | cpxImm (imm8 : Byte)
  /-- `CPX zp8`, opcode E4 (R168). -/
  | cpxZp (zp8 : Byte)
  /-- `CPX addr`, opcode EC (R168). -/
  | cpxAbs (lo8 : Byte) (hi8 : Byte)
  /-- `CPY #imm8`, opcode C0 (R169). -/
  | cpyImm (imm8 : Byte)
  /-- `CPY zp8`, opcode C4 (R169). -/
  | cpyZp (zp8 : Byte)
  /-- `CPY addr`, opcode CC (R169). -/
  | cpyAbs (lo8 : Byte) (hi8 : Byte)
  /-- `TAX`, opcode AA (R170). -/
  | tax
  /-- `TXA`, opcode 8A (R171). -/
  | txa
  /-- `TAY`, opcode A8 (R172). -/
  | tay
  /-- `TYA`, opcode 98 (R173). -/
  | tya
  /-- `JSR addr`, opcode 20 (R182). -/
  | jsr (lo8 : Byte) (hi8 : Byte)
  /-- `RTS`, opcode 60 (R183). -/
  | rts
  /-- `PHA`, opcode 48 (R184). -/
  | pha
  /-- `PLA`, opcode 68 (R185). -/
  | pla
  /-- `TXS`, opcode 9A (R186). -/
  | txs
  /-- `TSX`, opcode BA (R187). -/
  | tsx
  /-- `PHP`, opcode 08 (R188). -/
  | php
  /-- `PLP`, opcode 28 (R189). -/
  | plp
  /-- `BRK`, opcode 00 (R190). -/
  | brk
  /-- `RTI`, opcode 40 (R191). -/
  | rti
  /-- `NOP`, opcode EA (R192). -/
  | nop
  /-- `LSR A`, opcode 4A (R200). -/
  | lsrAcc
  /-- `LSR zp8`, opcode 46 (R200). -/
  | lsrZp (zp8 : Byte)
  /-- `LSR zp8,X`, opcode 56 (R200). -/
  | lsrZpX (zp8 : Byte)
  /-- `LSR addr`, opcode 4E (R200). -/
  | lsrAbs (lo8 : Byte) (hi8 : Byte)
  /-- `LSR addr,X`, opcode 5E (R200). -/
  | lsrAbsX (lo8 : Byte) (hi8 : Byte)
  /-- `ASL A`, opcode 0A (R201). -/
  | aslAcc
  /-- `ASL zp8`, opcode 06 (R201). -/
  | aslZp (zp8 : Byte)
  /-- `ASL zp8,X`, opcode 16 (R201). -/
  | aslZpX (zp8 : Byte)
  /-- `ASL addr`, opcode 0E (R201). -/
  | aslAbs (lo8 : Byte) (hi8 : Byte)
  /-- `ASL addr,X`, opcode 1E (R201). -/
  | aslAbsX (lo8 : Byte) (hi8 : Byte)
  /-- `ROL A`, opcode 2A (R202). -/
  | rolAcc
  /-- `ROL zp8`, opcode 26 (R202). -/
  | rolZp (zp8 : Byte)
  /-- `ROL zp8,X`, opcode 36 (R202). -/
  | rolZpX (zp8 : Byte)
  /-- `ROL addr`, opcode 2E (R202). -/
  | rolAbs (lo8 : Byte) (hi8 : Byte)
  /-- `ROL addr,X`, opcode 3E (R202). -/
  | rolAbsX (lo8 : Byte) (hi8 : Byte)
  /-- `ROR A`, opcode 6A (R203). -/
  | rorAcc
  /-- `ROR zp8`, opcode 66 (R203). -/
  | rorZp (zp8 : Byte)
  /-- `ROR zp8,X`, opcode 76 (R203). -/
  | rorZpX (zp8 : Byte)
  /-- `ROR addr`, opcode 6E (R203). -/
  | rorAbs (lo8 : Byte) (hi8 : Byte)
  /-- `ROR addr,X`, opcode 7E (R203). -/
  | rorAbsX (lo8 : Byte) (hi8 : Byte)
  /-- `INC zp8`, opcode E6 (R204). -/
  | incZp (zp8 : Byte)
  /-- `INC zp8,X`, opcode F6 (R204). -/
  | incZpX (zp8 : Byte)
  /-- `INC addr`, opcode EE (R204). -/
  | incAbs (lo8 : Byte) (hi8 : Byte)
  /-- `INC addr,X`, opcode FE (R204). -/
  | incAbsX (lo8 : Byte) (hi8 : Byte)
  /-- `DEC zp8`, opcode C6 (R205). -/
  | decZp (zp8 : Byte)
  /-- `DEC zp8,X`, opcode D6 (R205). -/
  | decZpX (zp8 : Byte)
  /-- `DEC addr`, opcode CE (R205). -/
  | decAbs (lo8 : Byte) (hi8 : Byte)
  /-- `DEC addr,X`, opcode DE (R205). -/
  | decAbsX (lo8 : Byte) (hi8 : Byte)
  deriving DecidableEq, Repr

/-- The 56 mnemonics (R1), in the order of the spec's families. -/
inductive Mnemonic where
  -- Accumulator load, store, arithmetic and logic (41)
  | lda | sta | adc | sbc | and | ora | eor
  -- Flag set and clear (42)
  | sec | clc | sei | cli | sed | cld | clv
  -- Branches, jump, compare, bit test (43)
  | bmi | bpl | bcc | bcs | beq | bne | bvs | bvc | jmp | cmp | bit
  -- Index registers (44)
  | ldx | ldy | stx | sty | inx | iny | dex | dey | cpx | cpy | tax | txa | tay | tya
  -- Stack and subroutines (45)
  | jsr | rts | pha | pla | txs | tsx | php | plp
  -- BRK, RTI, NOP (46)
  | brk | rti | nop
  -- Shifts, INC, DEC (47)
  | lsr | asl | rol | ror | inc | dec
  deriving DecidableEq, Repr

/-- The formats that have an effective address in memory (R81, R104 to R109, R112, R113), with their operand bytes. -/
inductive MemMode where
  /-- Zero page (R104). -/
  | zeroPage (zp8 : Byte)
  /-- Zero page,X (R105). -/
  | zeroPageX (zp8 : Byte)
  /-- Zero page,Y (R106). -/
  | zeroPageY (zp8 : Byte)
  /-- Absolute (R107). -/
  | absolute (lo8 hi8 : Byte)
  /-- Absolute,X (R108). -/
  | absoluteX (lo8 hi8 : Byte)
  /-- Absolute,Y (R109). -/
  | absoluteY (lo8 hi8 : Byte)
  /-- (Indirect,X) (R112). -/
  | indirectX (zp8 : Byte)
  /-- (Indirect),Y (R113). -/
  | indirectY (zp8 : Byte)
  deriving DecidableEq, Repr

/-- What follows the opcode byte: the 13 formats of R81. -/
inductive Operand where
  /-- Implied (R101). -/
  | implied
  /-- Accumulator (R102). -/
  | accumulator
  /-- Immediate (R103). -/
  | immediate (imm8 : Byte)
  /-- A format with an effective address in memory. -/
  | memory (m : MemMode)
  /-- Relative, the conditional branches (R111). -/
  | relative (rel8 : Byte)
  /-- Indirect, JMP only (R110). -/
  | indirect (lo8 hi8 : Byte)
  deriving DecidableEq, Repr

/-- The operand of an instruction that reads one byte (R100): immediate or in memory. -/
inductive Source where
  | immediate (imm8 : Byte)
  | memory (m : MemMode)
  deriving DecidableEq, Repr

/-- The operand of a shift or rotate (R200 to R203): the accumulator or a byte of memory. -/
inductive Target where
  | accumulator
  | memory (m : MemMode)
  deriving DecidableEq, Repr

/-- The mnemonic of an instruction, the first column of R86. -/
def Instr.mnemonic : Instr → Mnemonic
  | .ldaImm _ | .ldaZp _ | .ldaZpX _ | .ldaAbs _ _ | .ldaAbsX _ _ | .ldaAbsY _ _ | .ldaIndX _ | .ldaIndY _ => .lda
  | .staZp _ | .staZpX _ | .staAbs _ _ | .staAbsX _ _ | .staAbsY _ _ | .staIndX _ | .staIndY _ => .sta
  | .adcImm _ | .adcZp _ | .adcZpX _ | .adcAbs _ _ | .adcAbsX _ _ | .adcAbsY _ _ | .adcIndX _ | .adcIndY _ => .adc
  | .sbcImm _ | .sbcZp _ | .sbcZpX _ | .sbcAbs _ _ | .sbcAbsX _ _ | .sbcAbsY _ _ | .sbcIndX _ | .sbcIndY _ => .sbc
  | .andImm _ | .andZp _ | .andZpX _ | .andAbs _ _ | .andAbsX _ _ | .andAbsY _ _ | .andIndX _ | .andIndY _ => .and
  | .oraImm _ | .oraZp _ | .oraZpX _ | .oraAbs _ _ | .oraAbsX _ _ | .oraAbsY _ _ | .oraIndX _ | .oraIndY _ => .ora
  | .eorImm _ | .eorZp _ | .eorZpX _ | .eorAbs _ _ | .eorAbsX _ _ | .eorAbsY _ _ | .eorIndX _ | .eorIndY _ => .eor
  | .sec => .sec
  | .clc => .clc
  | .sei => .sei
  | .cli => .cli
  | .sed => .sed
  | .cld => .cld
  | .clv => .clv
  | .bmi _ => .bmi
  | .bpl _ => .bpl
  | .bcc _ => .bcc
  | .bcs _ => .bcs
  | .beq _ => .beq
  | .bne _ => .bne
  | .bvs _ => .bvs
  | .bvc _ => .bvc
  | .jmpAbs _ _ | .jmpInd _ _ => .jmp
  | .cmpImm _ | .cmpZp _ | .cmpZpX _ | .cmpAbs _ _ | .cmpAbsX _ _ | .cmpAbsY _ _ | .cmpIndX _ | .cmpIndY _ => .cmp
  | .bitZp _ | .bitAbs _ _ => .bit
  | .ldxImm _ | .ldxZp _ | .ldxZpY _ | .ldxAbs _ _ | .ldxAbsY _ _ => .ldx
  | .ldyImm _ | .ldyZp _ | .ldyZpX _ | .ldyAbs _ _ | .ldyAbsX _ _ => .ldy
  | .stxZp _ | .stxZpY _ | .stxAbs _ _ => .stx
  | .styZp _ | .styZpX _ | .styAbs _ _ => .sty
  | .inx => .inx
  | .iny => .iny
  | .dex => .dex
  | .dey => .dey
  | .cpxImm _ | .cpxZp _ | .cpxAbs _ _ => .cpx
  | .cpyImm _ | .cpyZp _ | .cpyAbs _ _ => .cpy
  | .tax => .tax
  | .txa => .txa
  | .tay => .tay
  | .tya => .tya
  | .jsr _ _ => .jsr
  | .rts => .rts
  | .pha => .pha
  | .pla => .pla
  | .txs => .txs
  | .tsx => .tsx
  | .php => .php
  | .plp => .plp
  | .brk => .brk
  | .rti => .rti
  | .nop => .nop
  | .lsrAcc | .lsrZp _ | .lsrZpX _ | .lsrAbs _ _ | .lsrAbsX _ _ => .lsr
  | .aslAcc | .aslZp _ | .aslZpX _ | .aslAbs _ _ | .aslAbsX _ _ => .asl
  | .rolAcc | .rolZp _ | .rolZpX _ | .rolAbs _ _ | .rolAbsX _ _ => .rol
  | .rorAcc | .rorZp _ | .rorZpX _ | .rorAbs _ _ | .rorAbsX _ _ => .ror
  | .incZp _ | .incZpX _ | .incAbs _ _ | .incAbsX _ _ => .inc
  | .decZp _ | .decZpX _ | .decAbs _ _ | .decAbsX _ _ => .dec

end Sys2Proof
end

