-- ==== Sys2Proof/Machine/Ops.lean ====
section
/-! DEFINITION. The named operations over memory and registers: bytes and words, the two memory primitives, the stack,
the vectors, taking an exception or interrupt, and returning from one. -/

namespace Sys2Proof.Machine

/-- What a meaning computes: a value, or the refusal that stops the step. -/
abbrev Result (α : Type) := Except Refusal α

/-- The outcome of one step. -/
abbrev StepOutcome := Host.Outcome State Fault Refusal

/-- A computed next state, or its refusal, as an outcome. -/
def finish : Result State → StepOutcome
  | .ok s => .next s
  | .error r => .refused r

/-! ### Bytes and words (R8, R52) -/

/-- The 16-bit value of a low and a high byte (R8). -/
def word (l h : Byte) : Word := h ++ l

/-- The low byte of a word (R8). -/
def loByte (w : Word) : Byte := w.setWidth 8

/-- The high byte of a word (R8). -/
def hiByte (w : Word) : Byte := (w >>> 8).setWidth 8

/-- A byte as a 16-bit value with high byte 0 (R8). -/
def zext16 (b : Byte) : Word := word b 0

/-- A byte sign-extended to 16 bits (R8). -/
def sext16 (b : Byte) : Word := b.signExtend 16

/-! ### Register updates -/

def State.withA (s : State) (v : Byte) : State := { s with a := v }
def State.withX (s : State) (v : Byte) : State := { s with x := v }
def State.withY (s : State) (v : Byte) : State := { s with y := v }
def State.withSp (s : State) (v : Byte) : State := { s with sp := v }
def State.withP (s : State) (v : Status) : State := { s with p := v }
def State.withPc (s : State) (v : Word) : State := { s with pc := v }
def State.withMem (s : State) (v : Memory) : State := { s with mem := v }
def State.withClk (s : State) (v : Nat) : State := { s with clk := v }

/-- PC past an instruction of a length, modulo 65536: `PC <- next_pc` (R10, R25). -/
def State.advance (s : State) (len : Nat) : State := s.withPc (s.pc + BitVec.ofNat 16 len)

/-! ### Memory (R55 to R57, R62) -/

/-- An address is in a run of addresses. -/
def regionHolds (r : Region) (addr : Word) : Bool :=
  decide (r.first.toNat ≤ addr.toNat) && decide (addr.toNat ≤ r.last.toNat)

/-- `IoRegion` (R62). -/
def State.isIo (s : State) (addr : Word) : Bool := s.cfg.ioRegion.any (fun r => regionHolds r addr)

/-- `Writable` (R62). -/
def State.isWritable (s : State) (addr : Word) : Bool := !s.cfg.readOnly.any (fun r => regionHolds r addr)

/-- The byte a location holds: the listed one, else the free value of a location that nothing has written (entry 3). -/
def State.byteAt (s : State) (addr : Word) : Byte :=
  (s.mem.read addr.toNat).getD (Config.unwrittenByte addr.toNat)

/-- `MemRead(addr, 1)` (R56). -/
def load (addr : Word) (s : State) : Result Byte :=
  if s.isIo addr then .error (.ioRead addr) else .ok (s.byteAt addr)

/-- `MemWrite(addr, 1, v)` (R57): no effect on an address that is not writable. -/
def store (addr : Word) (v : Byte) (s : State) : Result State :=
  if s.isIo addr then .error (.ioWrite addr)
  else .ok (if s.isWritable addr then s.withMem (s.mem.write addr.toNat v) else s)

/-! ### The stack (R180, R181) -/

/-- The page of the stack, `STACK_PAGE` (R7, D2). -/
def stackPage : Byte := 0x01

/-- The address of the stack byte that a stack pointer designates (R24). -/
def stackAddr (sp : Byte) : Word := word sp stackPage

/-- `push(v)` (R180): the byte goes to the first empty place, then SP moves down, modulo 256. -/
def push (v : Byte) (s : State) : Result State := do
  let t ← store (stackAddr s.sp) v s
  pure (t.withSp (s.sp - 1))

/-- `pull()` (R181): SP moves up, modulo 256, then the byte there is read. -/
def pull (s : State) : Result (Byte × State) := do
  let t := s.withSp (s.sp + 1)
  let v ← load (stackAddr t.sp) t
  pure (v, t)

/-- Push a 16-bit value, high byte first (R52, R182, R223). -/
def pushWord (w : Word) (s : State) : Result State := do
  let t ← push (hiByte w) s
  push (loByte w) t

/-- Pull a 16-bit value, low byte first (R183, R191). -/
def pullWord (s : State) : Result (Word × State) := do
  let (l, t) ← pull s
  let (h, u) ← pull t
  pure (word l h, u)

/-! ### Vectors (R61, R234) -/

/-- The vector of Break and IRQ, `BRK_VECTOR` and `IRQ_VECTOR` (R7, R234). -/
def breakVector : Word := 0xFFFE

/-- `NMI_VECTOR` (R7, R234). -/
def nmiVector : Word := 0xFFFA

/-- `RESET_VECTOR` (R7, R234). -/
def resetVector : Word := 0xFFFC

/-- `MemRead16(addr)`: the low byte first, then the high byte at the next address, modulo 65536 (R53). -/
def load16 (addr : Word) (s : State) : Result Word := do
  let l ← load addr s
  let h ← load (addr + 1) s
  pure (word l h)

/-! ### Taking an exception or interrupt, and returning (R223, R226, R229, R230) -/

/-- The entry sequence that Break, IRQ and NMI share (R223, R229): push the return address and a status byte, set I,
load PC from a vector. Nothing else changes. -/
def enterHandler (ret : Word) (status : Byte) (vector : Word) (s : State) : Result State := do
  let t ← pushWord ret s
  let u ← push status t
  let w := u.withP { u.p with i := true }
  let handler ← load16 vector w
  pure (w.withPc handler)

/-- Entry of Break, the one synchronous exception (R221, R223): B is set before P is pushed, I after it; the return
address is two past the BRK opcode. -/
def takeBreak (s : State) : Result State :=
  let t := s.withP (breakStatus s.cfg.bModel s.p)
  enterHandler (s.pc + 2) (pushedStatus s.cfg.bModel t.p) breakVector t

/-- Entry of IRQ or NMI at a boundary (R229, R230): the return address is the boundary PC, the pushed bit 4 is 0 and
the stored B does not change. -/
def takeInterrupt (vector : Word) (s : State) : Result State :=
  enterHandler s.pc (s.p.byteWith false) vector s

/-- Return from an exception or interrupt (R191, R226): P, then the low and the high byte of PC, with no + 1. -/
def returnFromHandler (s : State) : Result State := do
  let (v, t) ← pull s
  let (target, u) ← pullWord (t.withP (pulledStatus t.cfg.bModel t.p v))
  pure (u.withPc target)

end Sys2Proof.Machine
end

