-- ==== Sys2Proof/WellFormed.lean ====
section
/-! DEFINITION. Which instructions exist. A constructor of `Instr` admits only the formats its mnemonic has, and no
operand value is ever illegal (R84, R267), so the one check left is the presence of ROR (R5, R89, R269). -/

namespace Sys2Proof

/-- Whether the part with these parameters has the instruction: every one but ROR, and ROR where `HAS_ROR` (R5). -/
def Instr.wellFormed (cfg : Config) (i : Instr) : Bool :=
  cfg.hasRor || i.mnemonic != .ror

end Sys2Proof
end

