-- ==== Sys2Proof/Decode.lean ====
section
/-! DEFINITION. The operand form, bytes and length of each instruction (R80, R81, R86); decoding (R84): the opcode map
of R85 as a table of rows, looked up by the whole opcode byte, total on any bytes, rejecting by name; then the encoder,
written from the same map. -/

namespace Sys2Proof

/-- A source as an operand form. -/
def Source.operand : Source → Operand
  | .immediate imm8 => .immediate imm8
  | .memory m => .memory m

/-- A shift's target as an operand form. -/
def Target.operand : Target → Operand
  | .accumulator => .accumulator
  | .memory m => .memory m

/-- Length in bytes of an instruction with this memory format (R81). -/
def MemMode.length : MemMode → Nat
  | .zeroPage _ | .zeroPageX _ | .zeroPageY _ | .indirectX _ | .indirectY _ => 2
  | .absolute _ _ | .absoluteX _ _ | .absoluteY _ _ => 3

/-- Length in bytes of an instruction with this operand form, opcode byte included (R80, R81). -/
def Operand.length : Operand → Nat
  | .implied | .accumulator => 1
  | .immediate _ | .relative _ => 2
  | .indirect _ _ => 3
  | .memory m => m.length

/-- The operand bytes in the order in which they follow the opcode byte (R81, R52). -/
def MemMode.bytes : MemMode → List Byte
  | .zeroPage zp8 | .zeroPageX zp8 | .zeroPageY zp8 | .indirectX zp8 | .indirectY zp8 => [zp8]
  | .absolute lo8 hi8 | .absoluteX lo8 hi8 | .absoluteY lo8 hi8 => [lo8, hi8]

/-- The operand bytes in the order in which they follow the opcode byte (R81, R52). -/
def Operand.bytes : Operand → List Byte
  | .implied | .accumulator => []
  | .immediate imm8 => [imm8]
  | .relative rel8 => [rel8]
  | .indirect lo8 hi8 => [lo8, hi8]
  | .memory m => m.bytes

/-- The operand form of an instruction, the column of R86 its opcode stands in. -/
def Instr.operand : Instr → Operand
  | .sec | .clc | .sei | .cli | .sed | .cld | .clv | .inx | .iny | .dex | .dey | .tax | .txa | .tay | .tya
  | .rts | .pha | .pla | .txs | .tsx | .php | .plp | .brk | .rti | .nop => .implied
  | .bmi rel8 | .bpl rel8 | .bcc rel8 | .bcs rel8 | .beq rel8 | .bne rel8 | .bvs rel8 | .bvc rel8 => .relative rel8
  | .lsrAcc | .aslAcc | .rolAcc | .rorAcc => .accumulator
  | .ldaImm imm8 | .adcImm imm8 | .sbcImm imm8 | .andImm imm8 | .oraImm imm8 | .eorImm imm8 | .cmpImm imm8
  | .ldxImm imm8 | .ldyImm imm8 | .cpxImm imm8 | .cpyImm imm8 => .immediate imm8
  | .ldaZp zp8 | .staZp zp8 | .adcZp zp8 | .sbcZp zp8 | .andZp zp8 | .oraZp zp8 | .eorZp zp8 | .cmpZp zp8
  | .bitZp zp8 | .ldxZp zp8 | .ldyZp zp8 | .stxZp zp8 | .styZp zp8 | .cpxZp zp8 | .cpyZp zp8 | .lsrZp zp8
  | .aslZp zp8 | .rolZp zp8 | .rorZp zp8 | .incZp zp8 | .decZp zp8 => .memory (.zeroPage zp8)
  | .ldaZpX zp8 | .staZpX zp8 | .adcZpX zp8 | .sbcZpX zp8 | .andZpX zp8 | .oraZpX zp8 | .eorZpX zp8
  | .cmpZpX zp8 | .ldyZpX zp8 | .styZpX zp8 | .lsrZpX zp8 | .aslZpX zp8 | .rolZpX zp8 | .rorZpX zp8
  | .incZpX zp8 | .decZpX zp8 => .memory (.zeroPageX zp8)
  | .ldxZpY zp8 | .stxZpY zp8 => .memory (.zeroPageY zp8)
  | .ldaAbs lo8 hi8 | .staAbs lo8 hi8 | .adcAbs lo8 hi8 | .sbcAbs lo8 hi8 | .andAbs lo8 hi8
  | .oraAbs lo8 hi8 | .eorAbs lo8 hi8 | .jmpAbs lo8 hi8 | .cmpAbs lo8 hi8 | .bitAbs lo8 hi8
  | .ldxAbs lo8 hi8 | .ldyAbs lo8 hi8 | .stxAbs lo8 hi8 | .styAbs lo8 hi8 | .cpxAbs lo8 hi8
  | .cpyAbs lo8 hi8 | .jsr lo8 hi8 | .lsrAbs lo8 hi8 | .aslAbs lo8 hi8 | .rolAbs lo8 hi8 | .rorAbs lo8 hi8
  | .incAbs lo8 hi8 | .decAbs lo8 hi8 => .memory (.absolute lo8 hi8)
  | .ldaAbsX lo8 hi8 | .staAbsX lo8 hi8 | .adcAbsX lo8 hi8 | .sbcAbsX lo8 hi8 | .andAbsX lo8 hi8
  | .oraAbsX lo8 hi8 | .eorAbsX lo8 hi8 | .cmpAbsX lo8 hi8 | .ldyAbsX lo8 hi8 | .lsrAbsX lo8 hi8
  | .aslAbsX lo8 hi8 | .rolAbsX lo8 hi8 | .rorAbsX lo8 hi8 | .incAbsX lo8 hi8 | .decAbsX lo8 hi8 => .memory (.absoluteX lo8 hi8)
  | .ldaAbsY lo8 hi8 | .staAbsY lo8 hi8 | .adcAbsY lo8 hi8 | .sbcAbsY lo8 hi8 | .andAbsY lo8 hi8
  | .oraAbsY lo8 hi8 | .eorAbsY lo8 hi8 | .cmpAbsY lo8 hi8 | .ldxAbsY lo8 hi8 => .memory (.absoluteY lo8 hi8)
  | .ldaIndX zp8 | .staIndX zp8 | .adcIndX zp8 | .sbcIndX zp8 | .andIndX zp8 | .oraIndX zp8 | .eorIndX zp8
  | .cmpIndX zp8 => .memory (.indirectX zp8)
  | .ldaIndY zp8 | .staIndY zp8 | .adcIndY zp8 | .sbcIndY zp8 | .andIndY zp8 | .oraIndY zp8 | .eorIndY zp8
  | .cmpIndY zp8 => .memory (.indirectY zp8)
  | .jmpInd lo8 hi8 => .indirect lo8 hi8

/-- Length of an instruction in bytes (R80). -/
def Instr.length (i : Instr) : Nat := i.operand.length

/-- One assigned opcode: the byte, the length it gives the instruction (R80), and the instruction from bytes 1 and 2
(a format that has fewer operand bytes ignores the others). -/
structure OpcodeRow where
  opcode : Byte
  length : Nat
  build  : Byte → Byte → Instr

/-- Row 0x of the opcode map (R85). -/
def opcodeRow0 : List OpcodeRow := [
  ⟨0x00, 1, fun _ _ => .brk⟩,
  ⟨0x01, 2, fun b1 _ => .oraIndX b1⟩,
  ⟨0x05, 2, fun b1 _ => .oraZp b1⟩,
  ⟨0x06, 2, fun b1 _ => .aslZp b1⟩,
  ⟨0x08, 1, fun _ _ => .php⟩,
  ⟨0x09, 2, fun b1 _ => .oraImm b1⟩,
  ⟨0x0A, 1, fun _ _ => .aslAcc⟩,
  ⟨0x0D, 3, fun b1 b2 => .oraAbs b1 b2⟩,
  ⟨0x0E, 3, fun b1 b2 => .aslAbs b1 b2⟩]

/-- Row 1x of the opcode map (R85). -/
def opcodeRow1 : List OpcodeRow := [
  ⟨0x10, 2, fun b1 _ => .bpl b1⟩,
  ⟨0x11, 2, fun b1 _ => .oraIndY b1⟩,
  ⟨0x15, 2, fun b1 _ => .oraZpX b1⟩,
  ⟨0x16, 2, fun b1 _ => .aslZpX b1⟩,
  ⟨0x18, 1, fun _ _ => .clc⟩,
  ⟨0x19, 3, fun b1 b2 => .oraAbsY b1 b2⟩,
  ⟨0x1D, 3, fun b1 b2 => .oraAbsX b1 b2⟩,
  ⟨0x1E, 3, fun b1 b2 => .aslAbsX b1 b2⟩]

/-- Row 2x of the opcode map (R85). -/
def opcodeRow2 : List OpcodeRow := [
  ⟨0x20, 3, fun b1 b2 => .jsr b1 b2⟩,
  ⟨0x21, 2, fun b1 _ => .andIndX b1⟩,
  ⟨0x24, 2, fun b1 _ => .bitZp b1⟩,
  ⟨0x25, 2, fun b1 _ => .andZp b1⟩,
  ⟨0x26, 2, fun b1 _ => .rolZp b1⟩,
  ⟨0x28, 1, fun _ _ => .plp⟩,
  ⟨0x29, 2, fun b1 _ => .andImm b1⟩,
  ⟨0x2A, 1, fun _ _ => .rolAcc⟩,
  ⟨0x2C, 3, fun b1 b2 => .bitAbs b1 b2⟩,
  ⟨0x2D, 3, fun b1 b2 => .andAbs b1 b2⟩,
  ⟨0x2E, 3, fun b1 b2 => .rolAbs b1 b2⟩]

/-- Row 3x of the opcode map (R85). -/
def opcodeRow3 : List OpcodeRow := [
  ⟨0x30, 2, fun b1 _ => .bmi b1⟩,
  ⟨0x31, 2, fun b1 _ => .andIndY b1⟩,
  ⟨0x35, 2, fun b1 _ => .andZpX b1⟩,
  ⟨0x36, 2, fun b1 _ => .rolZpX b1⟩,
  ⟨0x38, 1, fun _ _ => .sec⟩,
  ⟨0x39, 3, fun b1 b2 => .andAbsY b1 b2⟩,
  ⟨0x3D, 3, fun b1 b2 => .andAbsX b1 b2⟩,
  ⟨0x3E, 3, fun b1 b2 => .rolAbsX b1 b2⟩]

/-- Row 4x of the opcode map (R85). -/
def opcodeRow4 : List OpcodeRow := [
  ⟨0x40, 1, fun _ _ => .rti⟩,
  ⟨0x41, 2, fun b1 _ => .eorIndX b1⟩,
  ⟨0x45, 2, fun b1 _ => .eorZp b1⟩,
  ⟨0x46, 2, fun b1 _ => .lsrZp b1⟩,
  ⟨0x48, 1, fun _ _ => .pha⟩,
  ⟨0x49, 2, fun b1 _ => .eorImm b1⟩,
  ⟨0x4A, 1, fun _ _ => .lsrAcc⟩,
  ⟨0x4C, 3, fun b1 b2 => .jmpAbs b1 b2⟩,
  ⟨0x4D, 3, fun b1 b2 => .eorAbs b1 b2⟩,
  ⟨0x4E, 3, fun b1 b2 => .lsrAbs b1 b2⟩]

/-- Row 5x of the opcode map (R85). -/
def opcodeRow5 : List OpcodeRow := [
  ⟨0x50, 2, fun b1 _ => .bvc b1⟩,
  ⟨0x51, 2, fun b1 _ => .eorIndY b1⟩,
  ⟨0x55, 2, fun b1 _ => .eorZpX b1⟩,
  ⟨0x56, 2, fun b1 _ => .lsrZpX b1⟩,
  ⟨0x58, 1, fun _ _ => .cli⟩,
  ⟨0x59, 3, fun b1 b2 => .eorAbsY b1 b2⟩,
  ⟨0x5D, 3, fun b1 b2 => .eorAbsX b1 b2⟩,
  ⟨0x5E, 3, fun b1 b2 => .lsrAbsX b1 b2⟩]

/-- Row 6x of the opcode map (R85). -/
def opcodeRow6 : List OpcodeRow := [
  ⟨0x60, 1, fun _ _ => .rts⟩,
  ⟨0x61, 2, fun b1 _ => .adcIndX b1⟩,
  ⟨0x65, 2, fun b1 _ => .adcZp b1⟩,
  ⟨0x66, 2, fun b1 _ => .rorZp b1⟩,
  ⟨0x68, 1, fun _ _ => .pla⟩,
  ⟨0x69, 2, fun b1 _ => .adcImm b1⟩,
  ⟨0x6A, 1, fun _ _ => .rorAcc⟩,
  ⟨0x6C, 3, fun b1 b2 => .jmpInd b1 b2⟩,
  ⟨0x6D, 3, fun b1 b2 => .adcAbs b1 b2⟩,
  ⟨0x6E, 3, fun b1 b2 => .rorAbs b1 b2⟩]

/-- Row 7x of the opcode map (R85). -/
def opcodeRow7 : List OpcodeRow := [
  ⟨0x70, 2, fun b1 _ => .bvs b1⟩,
  ⟨0x71, 2, fun b1 _ => .adcIndY b1⟩,
  ⟨0x75, 2, fun b1 _ => .adcZpX b1⟩,
  ⟨0x76, 2, fun b1 _ => .rorZpX b1⟩,
  ⟨0x78, 1, fun _ _ => .sei⟩,
  ⟨0x79, 3, fun b1 b2 => .adcAbsY b1 b2⟩,
  ⟨0x7D, 3, fun b1 b2 => .adcAbsX b1 b2⟩,
  ⟨0x7E, 3, fun b1 b2 => .rorAbsX b1 b2⟩]

/-- Row 8x of the opcode map (R85). -/
def opcodeRow8 : List OpcodeRow := [
  ⟨0x81, 2, fun b1 _ => .staIndX b1⟩,
  ⟨0x84, 2, fun b1 _ => .styZp b1⟩,
  ⟨0x85, 2, fun b1 _ => .staZp b1⟩,
  ⟨0x86, 2, fun b1 _ => .stxZp b1⟩,
  ⟨0x88, 1, fun _ _ => .dey⟩,
  ⟨0x8A, 1, fun _ _ => .txa⟩,
  ⟨0x8C, 3, fun b1 b2 => .styAbs b1 b2⟩,
  ⟨0x8D, 3, fun b1 b2 => .staAbs b1 b2⟩,
  ⟨0x8E, 3, fun b1 b2 => .stxAbs b1 b2⟩]

/-- Row 9x of the opcode map (R85). -/
def opcodeRow9 : List OpcodeRow := [
  ⟨0x90, 2, fun b1 _ => .bcc b1⟩,
  ⟨0x91, 2, fun b1 _ => .staIndY b1⟩,
  ⟨0x94, 2, fun b1 _ => .styZpX b1⟩,
  ⟨0x95, 2, fun b1 _ => .staZpX b1⟩,
  ⟨0x96, 2, fun b1 _ => .stxZpY b1⟩,
  ⟨0x98, 1, fun _ _ => .tya⟩,
  ⟨0x99, 3, fun b1 b2 => .staAbsY b1 b2⟩,
  ⟨0x9A, 1, fun _ _ => .txs⟩,
  ⟨0x9D, 3, fun b1 b2 => .staAbsX b1 b2⟩]

/-- Row Ax of the opcode map (R85). -/
def opcodeRowA : List OpcodeRow := [
  ⟨0xA0, 2, fun b1 _ => .ldyImm b1⟩,
  ⟨0xA1, 2, fun b1 _ => .ldaIndX b1⟩,
  ⟨0xA2, 2, fun b1 _ => .ldxImm b1⟩,
  ⟨0xA4, 2, fun b1 _ => .ldyZp b1⟩,
  ⟨0xA5, 2, fun b1 _ => .ldaZp b1⟩,
  ⟨0xA6, 2, fun b1 _ => .ldxZp b1⟩,
  ⟨0xA8, 1, fun _ _ => .tay⟩,
  ⟨0xA9, 2, fun b1 _ => .ldaImm b1⟩,
  ⟨0xAA, 1, fun _ _ => .tax⟩,
  ⟨0xAC, 3, fun b1 b2 => .ldyAbs b1 b2⟩,
  ⟨0xAD, 3, fun b1 b2 => .ldaAbs b1 b2⟩,
  ⟨0xAE, 3, fun b1 b2 => .ldxAbs b1 b2⟩]

/-- Row Bx of the opcode map (R85). -/
def opcodeRowB : List OpcodeRow := [
  ⟨0xB0, 2, fun b1 _ => .bcs b1⟩,
  ⟨0xB1, 2, fun b1 _ => .ldaIndY b1⟩,
  ⟨0xB4, 2, fun b1 _ => .ldyZpX b1⟩,
  ⟨0xB5, 2, fun b1 _ => .ldaZpX b1⟩,
  ⟨0xB6, 2, fun b1 _ => .ldxZpY b1⟩,
  ⟨0xB8, 1, fun _ _ => .clv⟩,
  ⟨0xB9, 3, fun b1 b2 => .ldaAbsY b1 b2⟩,
  ⟨0xBA, 1, fun _ _ => .tsx⟩,
  ⟨0xBC, 3, fun b1 b2 => .ldyAbsX b1 b2⟩,
  ⟨0xBD, 3, fun b1 b2 => .ldaAbsX b1 b2⟩,
  ⟨0xBE, 3, fun b1 b2 => .ldxAbsY b1 b2⟩]

/-- Row Cx of the opcode map (R85). -/
def opcodeRowC : List OpcodeRow := [
  ⟨0xC0, 2, fun b1 _ => .cpyImm b1⟩,
  ⟨0xC1, 2, fun b1 _ => .cmpIndX b1⟩,
  ⟨0xC4, 2, fun b1 _ => .cpyZp b1⟩,
  ⟨0xC5, 2, fun b1 _ => .cmpZp b1⟩,
  ⟨0xC6, 2, fun b1 _ => .decZp b1⟩,
  ⟨0xC8, 1, fun _ _ => .iny⟩,
  ⟨0xC9, 2, fun b1 _ => .cmpImm b1⟩,
  ⟨0xCA, 1, fun _ _ => .dex⟩,
  ⟨0xCC, 3, fun b1 b2 => .cpyAbs b1 b2⟩,
  ⟨0xCD, 3, fun b1 b2 => .cmpAbs b1 b2⟩,
  ⟨0xCE, 3, fun b1 b2 => .decAbs b1 b2⟩]

/-- Row Dx of the opcode map (R85). -/
def opcodeRowD : List OpcodeRow := [
  ⟨0xD0, 2, fun b1 _ => .bne b1⟩,
  ⟨0xD1, 2, fun b1 _ => .cmpIndY b1⟩,
  ⟨0xD5, 2, fun b1 _ => .cmpZpX b1⟩,
  ⟨0xD6, 2, fun b1 _ => .decZpX b1⟩,
  ⟨0xD8, 1, fun _ _ => .cld⟩,
  ⟨0xD9, 3, fun b1 b2 => .cmpAbsY b1 b2⟩,
  ⟨0xDD, 3, fun b1 b2 => .cmpAbsX b1 b2⟩,
  ⟨0xDE, 3, fun b1 b2 => .decAbsX b1 b2⟩]

/-- Row Ex of the opcode map (R85). -/
def opcodeRowE : List OpcodeRow := [
  ⟨0xE0, 2, fun b1 _ => .cpxImm b1⟩,
  ⟨0xE1, 2, fun b1 _ => .sbcIndX b1⟩,
  ⟨0xE4, 2, fun b1 _ => .cpxZp b1⟩,
  ⟨0xE5, 2, fun b1 _ => .sbcZp b1⟩,
  ⟨0xE6, 2, fun b1 _ => .incZp b1⟩,
  ⟨0xE8, 1, fun _ _ => .inx⟩,
  ⟨0xE9, 2, fun b1 _ => .sbcImm b1⟩,
  ⟨0xEA, 1, fun _ _ => .nop⟩,
  ⟨0xEC, 3, fun b1 b2 => .cpxAbs b1 b2⟩,
  ⟨0xED, 3, fun b1 b2 => .sbcAbs b1 b2⟩,
  ⟨0xEE, 3, fun b1 b2 => .incAbs b1 b2⟩]

/-- Row Fx of the opcode map (R85). -/
def opcodeRowF : List OpcodeRow := [
  ⟨0xF0, 2, fun b1 _ => .beq b1⟩,
  ⟨0xF1, 2, fun b1 _ => .sbcIndY b1⟩,
  ⟨0xF5, 2, fun b1 _ => .sbcZpX b1⟩,
  ⟨0xF6, 2, fun b1 _ => .incZpX b1⟩,
  ⟨0xF8, 1, fun _ _ => .sed⟩,
  ⟨0xF9, 3, fun b1 b2 => .sbcAbsY b1 b2⟩,
  ⟨0xFD, 3, fun b1 b2 => .sbcAbsX b1 b2⟩,
  ⟨0xFE, 3, fun b1 b2 => .incAbsX b1 b2⟩]

/-- The opcode map (R85): the 151 assigned opcodes in ascending order. The other 105 are Future Expansion (R88). -/
def opcodeMap : List OpcodeRow :=
  opcodeRow0 ++ opcodeRow1 ++ opcodeRow2 ++ opcodeRow3 ++ opcodeRow4 ++ opcodeRow5 ++ opcodeRow6 ++ opcodeRow7 ++
  opcodeRow8 ++ opcodeRow9 ++ opcodeRowA ++ opcodeRowB ++ opcodeRowC ++ opcodeRowD ++ opcodeRowE ++ opcodeRowF

/-- The row of an opcode byte; none for a Future Expansion opcode (R84, R88). -/
def opcodeRow (op : Byte) : Option OpcodeRow :=
  opcodeMap.find? (fun r => r.opcode == op)

/-- What decoding some bytes gives. -/
inductive Decoded where
  /-- An instruction and the bytes after it. -/
  | instr (i : Instr) (rest : List Byte)
  /-- The first byte is one of the 105 Future Expansion opcodes (R88). -/
  | futureExpansion (op : Byte)
  /-- The bytes end inside the instruction that the first of them selects, or there is none. -/
  | truncated
  deriving DecidableEq, Repr

/-- The operand bytes of a row taken from the bytes after the opcode (R81, R84). -/
def OpcodeRow.take (r : OpcodeRow) (rest : List Byte) : Decoded :=
  match r.length, rest with
  | 1, bytes => .instr (r.build 0 0) bytes
  | 2, b1 :: bytes => .instr (r.build b1 0) bytes
  | 3, b1 :: b2 :: bytes => .instr (r.build b1 b2) bytes
  | _, _ => .truncated

/-- Decode the instruction at the head of a list of bytes (R84), with every opcode of R85 assigned. -/
def decode : List Byte → Decoded
  | [] => .truncated
  | op :: bytes =>
    match opcodeRow op with
    | none => .futureExpansion op
    | some r => r.take bytes

/-- Decode under the parameters: with `HAS_ROR` false the five ROR opcodes join the Future Expansion set (R5, R89). -/
def decodeFor (cfg : Config) (bytes : List Byte) : Decoded :=
  match decode bytes with
  | .instr i rest => if i.wellFormed cfg then .instr i rest else .futureExpansion (bytes.headD 0)
  | d => d

/-- The opcode byte of an instruction (R86). -/
def Instr.opcode : Instr → Byte
  | .ldaImm _ => 0xA9 | .ldaZp _ => 0xA5 | .ldaZpX _ => 0xB5 | .ldaAbs _ _ => 0xAD
  | .ldaAbsX _ _ => 0xBD | .ldaAbsY _ _ => 0xB9 | .ldaIndX _ => 0xA1 | .ldaIndY _ => 0xB1
  | .staZp _ => 0x85 | .staZpX _ => 0x95 | .staAbs _ _ => 0x8D | .staAbsX _ _ => 0x9D
  | .staAbsY _ _ => 0x99 | .staIndX _ => 0x81 | .staIndY _ => 0x91 | .adcImm _ => 0x69
  | .adcZp _ => 0x65 | .adcZpX _ => 0x75 | .adcAbs _ _ => 0x6D | .adcAbsX _ _ => 0x7D
  | .adcAbsY _ _ => 0x79 | .adcIndX _ => 0x61 | .adcIndY _ => 0x71 | .sbcImm _ => 0xE9
  | .sbcZp _ => 0xE5 | .sbcZpX _ => 0xF5 | .sbcAbs _ _ => 0xED | .sbcAbsX _ _ => 0xFD
  | .sbcAbsY _ _ => 0xF9 | .sbcIndX _ => 0xE1 | .sbcIndY _ => 0xF1 | .andImm _ => 0x29
  | .andZp _ => 0x25 | .andZpX _ => 0x35 | .andAbs _ _ => 0x2D | .andAbsX _ _ => 0x3D
  | .andAbsY _ _ => 0x39 | .andIndX _ => 0x21 | .andIndY _ => 0x31 | .oraImm _ => 0x09
  | .oraZp _ => 0x05 | .oraZpX _ => 0x15 | .oraAbs _ _ => 0x0D | .oraAbsX _ _ => 0x1D
  | .oraAbsY _ _ => 0x19 | .oraIndX _ => 0x01 | .oraIndY _ => 0x11 | .eorImm _ => 0x49
  | .eorZp _ => 0x45 | .eorZpX _ => 0x55 | .eorAbs _ _ => 0x4D | .eorAbsX _ _ => 0x5D
  | .eorAbsY _ _ => 0x59 | .eorIndX _ => 0x41 | .eorIndY _ => 0x51 | .sec => 0x38
  | .clc => 0x18 | .sei => 0x78 | .cli => 0x58 | .sed => 0xF8
  | .cld => 0xD8 | .clv => 0xB8 | .bmi _ => 0x30 | .bpl _ => 0x10
  | .bcc _ => 0x90 | .bcs _ => 0xB0 | .beq _ => 0xF0 | .bne _ => 0xD0
  | .bvs _ => 0x70 | .bvc _ => 0x50 | .jmpAbs _ _ => 0x4C | .jmpInd _ _ => 0x6C
  | .cmpImm _ => 0xC9 | .cmpZp _ => 0xC5 | .cmpZpX _ => 0xD5 | .cmpAbs _ _ => 0xCD
  | .cmpAbsX _ _ => 0xDD | .cmpAbsY _ _ => 0xD9 | .cmpIndX _ => 0xC1 | .cmpIndY _ => 0xD1
  | .bitZp _ => 0x24 | .bitAbs _ _ => 0x2C | .ldxImm _ => 0xA2 | .ldxZp _ => 0xA6
  | .ldxZpY _ => 0xB6 | .ldxAbs _ _ => 0xAE | .ldxAbsY _ _ => 0xBE | .ldyImm _ => 0xA0
  | .ldyZp _ => 0xA4 | .ldyZpX _ => 0xB4 | .ldyAbs _ _ => 0xAC | .ldyAbsX _ _ => 0xBC
  | .stxZp _ => 0x86 | .stxZpY _ => 0x96 | .stxAbs _ _ => 0x8E | .styZp _ => 0x84
  | .styZpX _ => 0x94 | .styAbs _ _ => 0x8C | .inx => 0xE8 | .iny => 0xC8
  | .dex => 0xCA | .dey => 0x88 | .cpxImm _ => 0xE0 | .cpxZp _ => 0xE4
  | .cpxAbs _ _ => 0xEC | .cpyImm _ => 0xC0 | .cpyZp _ => 0xC4 | .cpyAbs _ _ => 0xCC
  | .tax => 0xAA | .txa => 0x8A | .tay => 0xA8 | .tya => 0x98
  | .jsr _ _ => 0x20 | .rts => 0x60 | .pha => 0x48 | .pla => 0x68
  | .txs => 0x9A | .tsx => 0xBA | .php => 0x08 | .plp => 0x28
  | .brk => 0x00 | .rti => 0x40 | .nop => 0xEA | .lsrAcc => 0x4A
  | .lsrZp _ => 0x46 | .lsrZpX _ => 0x56 | .lsrAbs _ _ => 0x4E | .lsrAbsX _ _ => 0x5E
  | .aslAcc => 0x0A | .aslZp _ => 0x06 | .aslZpX _ => 0x16 | .aslAbs _ _ => 0x0E
  | .aslAbsX _ _ => 0x1E | .rolAcc => 0x2A | .rolZp _ => 0x26 | .rolZpX _ => 0x36
  | .rolAbs _ _ => 0x2E | .rolAbsX _ _ => 0x3E | .rorAcc => 0x6A | .rorZp _ => 0x66
  | .rorZpX _ => 0x76 | .rorAbs _ _ => 0x6E | .rorAbsX _ _ => 0x7E | .incZp _ => 0xE6
  | .incZpX _ => 0xF6 | .incAbs _ _ => 0xEE | .incAbsX _ _ => 0xFE | .decZp _ => 0xC6
  | .decZpX _ => 0xD6 | .decAbs _ _ => 0xCE | .decAbsX _ _ => 0xDE

/-- The encoder: the bytes of an instruction, opcode first, then the operand bytes in the order of R81. -/
def encode (i : Instr) : List Byte := i.opcode :: i.operand.bytes

/-- Byte `k` of an instruction whose bits are the number `w`, the first byte its least significant. -/
def tableByte (w k : Nat) : Byte := BitVec.ofNat 8 (w / 2 ^ (8 * k))

/-- The three bytes of an instruction given as `nbits` bits of `w`; every bit above them is 0. -/
def tableBytes (nbits w : Nat) : List Byte :=
  let v := w % 2 ^ nbits
  [tableByte v 0, tableByte v 1, tableByte v 2]

/-- The instruction the decoder reads from the bits of a table word. -/
def decodeTableWord (nbits w : Nat) : Option Instr :=
  match decode (tableBytes nbits w) with
  | .instr i _ => some i
  | _ => none

end Sys2Proof
end

