-- ==== Sys2Proof/Machine/Operands.lean ====
section
/-! DEFINITION. The operand forms (R100 to R113): effective addresses, operand bytes, jump and branch targets, and the
page-crossing tests that only timing reads (R114). -/

namespace Sys2Proof.Machine

/-- The pointer in two bytes of the zero page, both addresses modulo 256, low byte first (R112, R113, D5, D6). -/
def zeroPagePointer (z : Byte) (s : State) : Result Word := do
  let l ← load (zext16 z) s
  let h ← load (zext16 (z + 1)) s
  pure (word l h)

/-- `ea()` (R100): reads index registers and pointer bytes, writes nothing. -/
def effectiveAddress (m : MemMode) (s : State) : Result Word :=
  match m with
  | .zeroPage zp8 => .ok (zext16 zp8)
  | .zeroPageX zp8 => .ok (zext16 (zp8 + s.x))
  | .zeroPageY zp8 => .ok (zext16 (zp8 + s.y))
  | .absolute lo8 hi8 => .ok (word lo8 hi8)
  | .absoluteX lo8 hi8 => .ok (word lo8 hi8 + zext16 s.x)
  | .absoluteY lo8 hi8 => .ok (word lo8 hi8 + zext16 s.y)
  | .indirectX zp8 => zeroPagePointer (zp8 + s.x) s
  | .indirectY zp8 => do
    let base ← zeroPagePointer zp8 s
    pure (base + zext16 s.y)

/-- The byte in memory that a format addresses: `MemRead(ea(), 1)` (R100). -/
def memoryByte (m : MemMode) (s : State) : Result Byte := do
  let addr ← effectiveAddress m s
  load addr s

/-- `operand()` of an instruction that reads one byte (R100, R103). -/
def operandByte (src : Source) (s : State) : Result Byte :=
  match src with
  | .immediate imm8 => .ok imm8
  | .memory m => memoryByte m s

/-- The address of the high byte of an indirect jump's target (R110): inside the pointer's page where
`JMP_IND_PAGE_WRAP`, else the next address. -/
def pointerHighAddr (wrap : Bool) (lo8 hi8 : Byte) : Word :=
  if wrap then word (lo8 + 1) hi8 else word lo8 hi8 + 1

/-- The target of JMP indirect (R110). -/
def indirectTarget (lo8 hi8 : Byte) (s : State) : Result Word := do
  let l ← load (word lo8 hi8) s
  let h ← load (pointerHighAddr s.cfg.jmpIndPageWrap lo8 hi8) s
  pure (word l h)

/-- The displacement of a branch as a 16-bit value (R83, R111, D1). -/
def displacement (decoding : RelDecode) (rel8 : Byte) : Word :=
  match decoding with
  | .twosComplement => sext16 rel8
  | .signMagnitude => if rel8.getLsbD 7 then - zext16 (rel8 &&& 0x7F) else zext16 rel8

/-- `REL_ADDR`: the displacement added to the address after the branch, modulo 65536 (R111, R140). -/
def branchTarget (rel8 : Byte) (s : State) : Word := s.pc + 2 + displacement s.cfg.relDecode rel8

/-- The pointer that the bytes of the zero page hold, without the check for a device: for timing only. -/
def peekZeroPagePointer (z : Byte) (s : State) : Word := word (s.byteAt (zext16 z)) (s.byteAt (zext16 (z + 1)))

/-- Indexing carries the effective address into another page than the base's (R114). -/
def crossesPage (m : MemMode) (s : State) : Bool :=
  match m with
  | .absoluteX lo8 hi8 => hiByte (word lo8 hi8 + zext16 s.x) != hi8
  | .absoluteY lo8 hi8 => hiByte (word lo8 hi8 + zext16 s.y) != hi8
  | .indirectY zp8 =>
    let base := peekZeroPagePointer zp8 s
    hiByte (base + zext16 s.y) != hiByte base
  | .zeroPage _ | .zeroPageX _ | .zeroPageY _ | .absolute _ _ | .indirectX _ => false

/-- A taken branch lands in another page than that of the instruction after it (R114, R273). -/
def branchCrossesPage (rel8 : Byte) (s : State) : Bool := hiByte (branchTarget rel8 s) != hiByte (s.pc + 2)

end Sys2Proof.Machine
end

