-- ==== Sys2Proof/Machine/Branch.lean ====
section
/-! DEFINITION. Conditional branches, jump, compare and bit test (43_branch_test.md). -/

namespace Sys2Proof.Machine

/-- The condition a branch tests (R141 to R148); no other mnemonic has one. -/
def branchCondition (m : Mnemonic) (p : Status) : Bool :=
  match m with
  | .bmi => p.n
  | .bpl => !p.n
  | .bcc => !p.c
  | .bcs => p.c
  | .beq => p.z
  | .bne => !p.z
  | .bvs => p.v
  | .bvc => !p.v
  | _ => false

/-- The common rule of the branches (R140): the target where the condition holds, else the next instruction. -/
def branch (m : Mnemonic) (rel8 : Byte) (s : State) : Result State :=
  pure (if branchCondition m s.p then s.withPc (branchTarget rel8 s) else s.advance 2)

/-- BMI (R141). -/
def branchMinus (rel8 : Byte) (s : State) : Result State := branch .bmi rel8 s

/-- BPL (R142). -/
def branchPlus (rel8 : Byte) (s : State) : Result State := branch .bpl rel8 s

/-- BCC (R143). -/
def branchCarryClear (rel8 : Byte) (s : State) : Result State := branch .bcc rel8 s

/-- BCS (R144). -/
def branchCarrySet (rel8 : Byte) (s : State) : Result State := branch .bcs rel8 s

/-- BEQ (R145). -/
def branchZero (rel8 : Byte) (s : State) : Result State := branch .beq rel8 s

/-- BNE (R146). -/
def branchNotZero (rel8 : Byte) (s : State) : Result State := branch .bne rel8 s

/-- BVS (R147). -/
def branchOverflowSet (rel8 : Byte) (s : State) : Result State := branch .bvs rel8 s

/-- BVC (R148). -/
def branchOverflowClear (rel8 : Byte) (s : State) : Result State := branch .bvc rel8 s

/-- JMP absolute (R149, R107): the address itself is the new PC, the byte there is not read. -/
def jump (lo8 hi8 : Byte) (s : State) : Result State := pure (s.withPc (word lo8 hi8))

/-- JMP indirect (R149, R110). -/
def jumpIndirect (lo8 hi8 : Byte) (s : State) : Result State := do
  let target ← indirectTarget lo8 hi8 s
  pure (s.withPc target)

/-- The part that CMP, CPX and CPY share: compare a register with the operand; flags only (R150, R168, R169). -/
def compareRegister (r : Byte) (src : Source) (s : State) : Result State := do
  let m ← operandByte src s
  pure ((s.withP (compareFlags s.p r m)).advance src.operand.length)

/-- CMP (R150). -/
def compareA (src : Source) (s : State) : Result State := compareRegister s.a src s

/-- BIT (R151). -/
def bitTest (src : Source) (s : State) : Result State := do
  let m ← operandByte src s
  pure ((s.withP (bitFlags s.p s.a m)).advance src.operand.length)

/-! ### One meaning for each opcode -/

/-- `BMI rel8` (R141). -/
def execBmi (rel8 : Byte) (s : State) : StepOutcome := finish (branchMinus rel8 s)

/-- `BPL rel8` (R142). -/
def execBpl (rel8 : Byte) (s : State) : StepOutcome := finish (branchPlus rel8 s)

/-- `BCC rel8` (R143). -/
def execBcc (rel8 : Byte) (s : State) : StepOutcome := finish (branchCarryClear rel8 s)

/-- `BCS rel8` (R144). -/
def execBcs (rel8 : Byte) (s : State) : StepOutcome := finish (branchCarrySet rel8 s)

/-- `BEQ rel8` (R145). -/
def execBeq (rel8 : Byte) (s : State) : StepOutcome := finish (branchZero rel8 s)

/-- `BNE rel8` (R146). -/
def execBne (rel8 : Byte) (s : State) : StepOutcome := finish (branchNotZero rel8 s)

/-- `BVS rel8` (R147). -/
def execBvs (rel8 : Byte) (s : State) : StepOutcome := finish (branchOverflowSet rel8 s)

/-- `BVC rel8` (R148). -/
def execBvc (rel8 : Byte) (s : State) : StepOutcome := finish (branchOverflowClear rel8 s)

/-- `JMP addr` (R149). -/
def execJmpAbs (lo8 : Byte) (hi8 : Byte) (s : State) : StepOutcome := finish (jump lo8 hi8 s)

/-- `JMP (addr)` (R149). -/
def execJmpInd (lo8 : Byte) (hi8 : Byte) (s : State) : StepOutcome := finish (jumpIndirect lo8 hi8 s)

/-- `CMP #imm8` (R150). -/
def execCmpImm (imm8 : Byte) (s : State) : StepOutcome := finish (compareA (.immediate imm8) s)

/-- `CMP zp8` (R150). -/
def execCmpZp (zp8 : Byte) (s : State) : StepOutcome := finish (compareA (.memory (.zeroPage zp8)) s)

/-- `CMP zp8,X` (R150). -/
def execCmpZpX (zp8 : Byte) (s : State) : StepOutcome := finish (compareA (.memory (.zeroPageX zp8)) s)

/-- `CMP addr` (R150). -/
def execCmpAbs (lo8 : Byte) (hi8 : Byte) (s : State) : StepOutcome := finish (compareA (.memory (.absolute lo8 hi8)) s)

/-- `CMP addr,X` (R150). -/
def execCmpAbsX (lo8 : Byte) (hi8 : Byte) (s : State) : StepOutcome := finish (compareA (.memory (.absoluteX lo8 hi8)) s)

/-- `CMP addr,Y` (R150). -/
def execCmpAbsY (lo8 : Byte) (hi8 : Byte) (s : State) : StepOutcome := finish (compareA (.memory (.absoluteY lo8 hi8)) s)

/-- `CMP (zp8,X)` (R150). -/
def execCmpIndX (zp8 : Byte) (s : State) : StepOutcome := finish (compareA (.memory (.indirectX zp8)) s)

/-- `CMP (zp8),Y` (R150). -/
def execCmpIndY (zp8 : Byte) (s : State) : StepOutcome := finish (compareA (.memory (.indirectY zp8)) s)

/-- `BIT zp8` (R151). -/
def execBitZp (zp8 : Byte) (s : State) : StepOutcome := finish (bitTest (.memory (.zeroPage zp8)) s)

/-- `BIT addr` (R151). -/
def execBitAbs (lo8 : Byte) (hi8 : Byte) (s : State) : StepOutcome := finish (bitTest (.memory (.absolute lo8 hi8)) s)

end Sys2Proof.Machine
end

