-- ==== Sys2Proof/Machine/Timing.lean ====
section
/-! DEFINITION. Clock cycles (R271 to R274): the execution-time table, the page-crossing and branch penalties, the cost
of an interrupt entry. Information only: no rule reads it, and it reaches no field but the ghost total `clk`. -/

namespace Sys2Proof.Machine

/-- The mark on a cell of the execution-time table (R271). -/
inductive Penalty where
  | none
  /-- `*`: one cycle more when indexing crosses a page (R272). -/
  | indexing
  /-- `**`: one cycle more when taken, one more again when the target is in another page (R273). -/
  | branching
  deriving DecidableEq, Repr

/-- The cell of the execution-time table for each opcode (R271): its number and its mark. -/
def cycleCell : Instr → Nat × Penalty
  | .ldaImm _ | .adcImm _ | .sbcImm _ | .andImm _ | .oraImm _ | .eorImm _ | .sec | .clc | .sei | .cli
  | .sed | .cld | .clv | .cmpImm _ | .ldxImm _ | .ldyImm _ | .inx | .iny | .dex | .dey | .cpxImm _
  | .cpyImm _ | .tax | .txa | .tay | .tya | .txs | .tsx | .nop | .lsrAcc | .aslAcc | .rolAcc | .rorAcc => (2, .none)
  | .bmi _ | .bpl _ | .bcc _ | .bcs _ | .beq _ | .bne _ | .bvs _ | .bvc _ => (2, .branching)
  | .ldaZp _ | .staZp _ | .adcZp _ | .sbcZp _ | .andZp _ | .oraZp _ | .eorZp _ | .jmpAbs _ _ | .cmpZp _
  | .bitZp _ | .ldxZp _ | .ldyZp _ | .stxZp _ | .styZp _ | .cpxZp _ | .cpyZp _ | .pha | .php => (3, .none)
  | .ldaZpX _ | .ldaAbs _ _ | .staZpX _ | .staAbs _ _ | .adcZpX _ | .adcAbs _ _ | .sbcZpX _ | .sbcAbs _ _
  | .andZpX _ | .andAbs _ _ | .oraZpX _ | .oraAbs _ _ | .eorZpX _ | .eorAbs _ _ | .cmpZpX _ | .cmpAbs _ _
  | .bitAbs _ _ | .ldxZpY _ | .ldxAbs _ _ | .ldyZpX _ | .ldyAbs _ _ | .stxZpY _ | .stxAbs _ _ | .styZpX _
  | .styAbs _ _ | .cpxAbs _ _ | .cpyAbs _ _ | .pla | .plp => (4, .none)
  | .ldaAbsX _ _ | .ldaAbsY _ _ | .adcAbsX _ _ | .adcAbsY _ _ | .sbcAbsX _ _ | .sbcAbsY _ _ | .andAbsX _ _
  | .andAbsY _ _ | .oraAbsX _ _ | .oraAbsY _ _ | .eorAbsX _ _ | .eorAbsY _ _ | .cmpAbsX _ _ | .cmpAbsY _ _
  | .ldxAbsY _ _ | .ldyAbsX _ _ => (4, .indexing)
  | .staAbsX _ _ | .staAbsY _ _ | .jmpInd _ _ | .lsrZp _ | .aslZp _ | .rolZp _ | .rorZp _ | .incZp _
  | .decZp _ => (5, .none)
  | .ldaIndY _ | .adcIndY _ | .sbcIndY _ | .andIndY _ | .oraIndY _ | .eorIndY _ | .cmpIndY _ => (5, .indexing)
  | .ldaIndX _ | .staIndX _ | .staIndY _ | .adcIndX _ | .sbcIndX _ | .andIndX _ | .oraIndX _ | .eorIndX _
  | .cmpIndX _ | .jsr _ _ | .rts | .rti | .lsrZpX _ | .lsrAbs _ _ | .aslZpX _ | .aslAbs _ _ | .rolZpX _
  | .rolAbs _ _ | .rorZpX _ | .rorAbs _ _ | .incZpX _ | .incAbs _ _ | .decZpX _ | .decAbs _ _ => (6, .none)
  | .brk | .lsrAbsX _ _ | .aslAbsX _ _ | .rolAbsX _ _ | .rorAbsX _ _ | .incAbsX _ _ | .decAbsX _ _ => (7, .none)

/-- The extra cycle of indexing across a page boundary (R272). -/
def indexingPenalty (o : Operand) (s : State) : Nat :=
  match o with
  | .memory m => (crossesPage m s).toNat
  | .implied | .accumulator | .immediate _ | .relative _ | .indirect _ _ => 0

/-- The extra cycles of a branch (R273): 0 not taken, 1 taken, 2 taken into another page. -/
def branchPenalty (m : Mnemonic) (o : Operand) (s : State) : Nat :=
  match o with
  | .relative rel8 => if branchCondition m s.p then 1 + (branchCrossesPage rel8 s).toNat else 0
  | .implied | .accumulator | .immediate _ | .memory _ | .indirect _ _ => 0

/-- The cycles an instruction takes when it starts in a state (R271 to R273). -/
def cycles (i : Instr) (s : State) : Nat :=
  (cycleCell i).1 +
    match (cycleCell i).2 with
    | .none => 0
    | .indexing => indexingPenalty i.operand s
    | .branching => branchPenalty i.mnemonic i.operand s

/-- The cycles an IRQ or NMI entry takes (R229, R274). -/
def interruptCycles : Nat := 7

end Sys2Proof.Machine
end

