-- ==== Sys2Proof/Machine/Interrupts.lean ====
section
/-! DEFINITION. The instruction boundary (R233): sampling the environment's inputs, which event is due (R232), taking
NMI, IRQ and RESET (R229 to R231, R260), and the start of a run from a platform's image (R62, R260). -/

namespace Sys2Proof.Machine

/-- The events that are no instruction (R220). -/
inductive Event where
  | reset
  | nmi
  | irq
  deriving DecidableEq, Repr

/-- RESET is requested at this boundary. -/
def resetRequested (s : State) : Bool :=
  match s.env with
  | [] => false
  | e :: _ => e.reset

/-- The state after this boundary's inputs: the line has the level driven now, an NMI edge sets the latch, further
edges while it is set are lost (R229, R230). -/
def sample (s : State) : State :=
  match s.env with
  | [] => s
  | e :: rest =>
    { s with env := rest, irqLine := e.irq, nmiPending := s.nmiPending || (s.cfg.hasNmi && e.nmiEdge) }

/-- The event due at this boundary: RESET, then NMI, then IRQ (R232, R233). R233 gates NMI and IRQ by their parameters
and RESET by none, while R228 says of the machine with both false that it has no asynchronous event at all. DESIGN CHOICE
(entry 36): R233 is followed, a RESET that the schedule requests is taken whatever the parameters are. -/
def dueEvent (s : State) : Option Event :=
  let t := sample s
  if resetRequested s then some .reset
  else if t.cfg.hasNmi && t.nmiPending then some .nmi
  else if t.cfg.hasIrq && t.irqLine && !t.p.i then some .irq
  else none

/-- A byte that RESET leaves unspecified: the `k`-th free byte not yet drawn (R261, entry 14). -/
def drawn (s : State) (k : Nat) : Byte := Config.freeByte (s.freeCount + k)

/-- The registers as RESET establishes them (R260): PC given, I set, the latch cleared; A, X, Y, SP and the other six
flags are unspecified, so each is a free value; memory and the rest unchanged, nothing pushed. -/
def resetRegisters (target : Word) (s : State) : State :=
  { s with
    a := drawn s 0
    x := drawn s 1
    y := drawn s 2
    sp := drawn s 3
    p := { Status.ofByte (drawn s 4) with i := true }
    pc := target
    nmiPending := false
    freeCount := s.freeCount + 5 }

/-- The one sequence of RESET, at the start of a run and as an event (R231, R260): PC from the vector at $FFFC. R42 and
R260 write that vector as bytes of memory, R61 and R234 as two `MemRead`s. DESIGN CHOICE (entry 35): it is read as the
latter, so that a vector in a device is refused. -/
def enterReset (s : State) : Result State := do
  let target ← load16 resetVector s
  pure (resetRegisters target s)

/-- RESET as an event (R231). R274 gives RESET no cycle count. DESIGN CHOICE (entry 22): the event adds a free number to
the run's total, which it does not restart. -/
def takeReset (s : State) : Result State := do
  let t ← enterReset s
  pure (t.withClk (t.clk + Config.resetCycles))

/-- IRQ entry (R229). -/
def takeIrq (s : State) : Result State := do
  let t ← takeInterrupt breakVector s
  pure (t.withClk (t.clk + interruptCycles))

/-- NMI entry (R230): as IRQ, with its own vector, and the latch is cleared. -/
def takeNmi (s : State) : Result State := do
  let t ← takeInterrupt nmiVector { s with nmiPending := false }
  pure (t.withClk (t.clk + interruptCycles))

/-- Take an event: a step of its own that executes no instruction (R233). -/
def takeEvent (e : Event) (s : State) : Result State :=
  match e with
  | .reset => takeReset s
  | .nmi => takeNmi s
  | .irq => takeIrq s

/-- The machine that a platform gives before its RESET: parameters, image and schedule (R43, R62). -/
def placed (cfg : Config) (image : Memory) (schedule : List Boundary) : State :=
  { State.reset with cfg := cfg, mem := image, env := schedule }

/-- The machine as a run starts on a platform: RESET performed on the placed machine (R231: "RESET is how a run starts";
R42, R260). PC is the word of the image's reset vector, or the start is refused where the vector lies in a device (DESIGN
CHOICE, entry 35); the registers that R42 leaves unspecified hold free values (R261, entry 14). R274 does not say whether
this RESET counts in the total. DESIGN CHOICE (entry 22): it does not, `clk` is 0 when the run starts. -/
def powerOn (cfg : Config) (image : Memory) (schedule : List Boundary) : Result State :=
  enterReset (placed cfg image schedule)

end Sys2Proof.Machine
end

