-- ==== Sys2Proof/Machine/Accumulator.lean ====
section
/-! DEFINITION. Accumulator load, store, arithmetic and logic (41_accumulator_ops.md): the shared operations, then one
meaning for each opcode. -/

namespace Sys2Proof.Machine

/-- LDA (R120). -/
def loadA (src : Source) (s : State) : Result State := do
  let v ← operandByte src s
  pure (((s.withP (setNZ s.p v)).withA v).advance src.operand.length)

/-- STA (R121): one write, no read of the target, no flag. -/
def storeA (m : MemMode) (s : State) : Result State := do
  let addr ← effectiveAddress m s
  let t ← store addr s.a s
  pure (t.advance m.length)

/-- Decimal mode has no meaning for these operands: a digit above 9 and `DECIMAL_INVALID_BCD` is `refuse` (R122, D20). -/
def refusesBcd (s : State) (m : Byte) : Bool :=
  s.p.d && s.cfg.invalidBcd == .refuse && !(validBcd s.a && validBcd m)

/-- What ADC computes from the accumulator and a byte, in the mode D selects (R122). -/
def addResult (s : State) (m : Byte) : Sum :=
  if s.p.d then addDecimal s.a m s.p.c else addBinary s.a m s.p.c

/-- What SBC computes from the accumulator and a byte, in the mode D selects (R123). -/
def subResult (s : State) (m : Byte) : Sum :=
  if s.p.d then subDecimal s.a m s.p.c else subBinary s.a m s.p.c

/-- The part that ADC and SBC share: read the operand, refuse invalid BCD, write A, N, V, Z and C (R122, R123). -/
def arithmetic (result : State → Byte → Sum) (src : Source) (s : State) : Result State := do
  let m ← operandByte src s
  let r := result s m
  if refusesBcd s m then throw (.invalidBcd s.a m)
  else pure (((s.withP (setSum s.p r)).withA r.value).advance src.operand.length)

/-- ADC (R122). -/
def addWithCarry (src : Source) (s : State) : Result State := arithmetic addResult src s

/-- SBC (R123). -/
def subtractWithBorrow (src : Source) (s : State) : Result State := arithmetic subResult src s

/-- The part that AND, ORA and EOR share: combine the accumulator with a byte, set N and Z (R124 to R126). -/
def logical (combine : Byte → Byte → Byte) (src : Source) (s : State) : Result State := do
  let m ← operandByte src s
  let v := combine s.a m
  pure (((s.withP (setNZ s.p v)).withA v).advance src.operand.length)

/-- AND (R124). -/
def andA (src : Source) (s : State) : Result State := logical (fun a m => a &&& m) src s

/-- ORA (R125). -/
def orA (src : Source) (s : State) : Result State := logical (fun a m => a ||| m) src s

/-- EOR (R126). -/
def eorA (src : Source) (s : State) : Result State := logical (fun a m => a ^^^ m) src s

/-! ### One meaning for each opcode -/

/-- `LDA #imm8` (R120). -/
def execLdaImm (imm8 : Byte) (s : State) : StepOutcome := finish (loadA (.immediate imm8) s)

/-- `LDA zp8` (R120). -/
def execLdaZp (zp8 : Byte) (s : State) : StepOutcome := finish (loadA (.memory (.zeroPage zp8)) s)

/-- `LDA zp8,X` (R120). -/
def execLdaZpX (zp8 : Byte) (s : State) : StepOutcome := finish (loadA (.memory (.zeroPageX zp8)) s)

/-- `LDA addr` (R120). -/
def execLdaAbs (lo8 : Byte) (hi8 : Byte) (s : State) : StepOutcome := finish (loadA (.memory (.absolute lo8 hi8)) s)

/-- `LDA addr,X` (R120). -/
def execLdaAbsX (lo8 : Byte) (hi8 : Byte) (s : State) : StepOutcome := finish (loadA (.memory (.absoluteX lo8 hi8)) s)

/-- `LDA addr,Y` (R120). -/
def execLdaAbsY (lo8 : Byte) (hi8 : Byte) (s : State) : StepOutcome := finish (loadA (.memory (.absoluteY lo8 hi8)) s)

/-- `LDA (zp8,X)` (R120). -/
def execLdaIndX (zp8 : Byte) (s : State) : StepOutcome := finish (loadA (.memory (.indirectX zp8)) s)

/-- `LDA (zp8),Y` (R120). -/
def execLdaIndY (zp8 : Byte) (s : State) : StepOutcome := finish (loadA (.memory (.indirectY zp8)) s)

/-- `STA zp8` (R121). -/
def execStaZp (zp8 : Byte) (s : State) : StepOutcome := finish (storeA (.zeroPage zp8) s)

/-- `STA zp8,X` (R121). -/
def execStaZpX (zp8 : Byte) (s : State) : StepOutcome := finish (storeA (.zeroPageX zp8) s)

/-- `STA addr` (R121). -/
def execStaAbs (lo8 : Byte) (hi8 : Byte) (s : State) : StepOutcome := finish (storeA (.absolute lo8 hi8) s)

/-- `STA addr,X` (R121). -/
def execStaAbsX (lo8 : Byte) (hi8 : Byte) (s : State) : StepOutcome := finish (storeA (.absoluteX lo8 hi8) s)

/-- `STA addr,Y` (R121). -/
def execStaAbsY (lo8 : Byte) (hi8 : Byte) (s : State) : StepOutcome := finish (storeA (.absoluteY lo8 hi8) s)

/-- `STA (zp8,X)` (R121). -/
def execStaIndX (zp8 : Byte) (s : State) : StepOutcome := finish (storeA (.indirectX zp8) s)

/-- `STA (zp8),Y` (R121). -/
def execStaIndY (zp8 : Byte) (s : State) : StepOutcome := finish (storeA (.indirectY zp8) s)

/-- `ADC #imm8` (R122). -/
def execAdcImm (imm8 : Byte) (s : State) : StepOutcome := finish (addWithCarry (.immediate imm8) s)

/-- `ADC zp8` (R122). -/
def execAdcZp (zp8 : Byte) (s : State) : StepOutcome := finish (addWithCarry (.memory (.zeroPage zp8)) s)

/-- `ADC zp8,X` (R122). -/
def execAdcZpX (zp8 : Byte) (s : State) : StepOutcome := finish (addWithCarry (.memory (.zeroPageX zp8)) s)

/-- `ADC addr` (R122). -/
def execAdcAbs (lo8 : Byte) (hi8 : Byte) (s : State) : StepOutcome := finish (addWithCarry (.memory (.absolute lo8 hi8)) s)

/-- `ADC addr,X` (R122). -/
def execAdcAbsX (lo8 : Byte) (hi8 : Byte) (s : State) : StepOutcome := finish (addWithCarry (.memory (.absoluteX lo8 hi8)) s)

/-- `ADC addr,Y` (R122). -/
def execAdcAbsY (lo8 : Byte) (hi8 : Byte) (s : State) : StepOutcome := finish (addWithCarry (.memory (.absoluteY lo8 hi8)) s)

/-- `ADC (zp8,X)` (R122). -/
def execAdcIndX (zp8 : Byte) (s : State) : StepOutcome := finish (addWithCarry (.memory (.indirectX zp8)) s)

/-- `ADC (zp8),Y` (R122). -/
def execAdcIndY (zp8 : Byte) (s : State) : StepOutcome := finish (addWithCarry (.memory (.indirectY zp8)) s)

/-- `SBC #imm8` (R123). -/
def execSbcImm (imm8 : Byte) (s : State) : StepOutcome := finish (subtractWithBorrow (.immediate imm8) s)

/-- `SBC zp8` (R123). -/
def execSbcZp (zp8 : Byte) (s : State) : StepOutcome := finish (subtractWithBorrow (.memory (.zeroPage zp8)) s)

/-- `SBC zp8,X` (R123). -/
def execSbcZpX (zp8 : Byte) (s : State) : StepOutcome := finish (subtractWithBorrow (.memory (.zeroPageX zp8)) s)

/-- `SBC addr` (R123). -/
def execSbcAbs (lo8 : Byte) (hi8 : Byte) (s : State) : StepOutcome := finish (subtractWithBorrow (.memory (.absolute lo8 hi8)) s)

/-- `SBC addr,X` (R123). -/
def execSbcAbsX (lo8 : Byte) (hi8 : Byte) (s : State) : StepOutcome := finish (subtractWithBorrow (.memory (.absoluteX lo8 hi8)) s)

/-- `SBC addr,Y` (R123). -/
def execSbcAbsY (lo8 : Byte) (hi8 : Byte) (s : State) : StepOutcome := finish (subtractWithBorrow (.memory (.absoluteY lo8 hi8)) s)

/-- `SBC (zp8,X)` (R123). -/
def execSbcIndX (zp8 : Byte) (s : State) : StepOutcome := finish (subtractWithBorrow (.memory (.indirectX zp8)) s)

/-- `SBC (zp8),Y` (R123). -/
def execSbcIndY (zp8 : Byte) (s : State) : StepOutcome := finish (subtractWithBorrow (.memory (.indirectY zp8)) s)

/-- `AND #imm8` (R124). -/
def execAndImm (imm8 : Byte) (s : State) : StepOutcome := finish (andA (.immediate imm8) s)

/-- `AND zp8` (R124). -/
def execAndZp (zp8 : Byte) (s : State) : StepOutcome := finish (andA (.memory (.zeroPage zp8)) s)

/-- `AND zp8,X` (R124). -/
def execAndZpX (zp8 : Byte) (s : State) : StepOutcome := finish (andA (.memory (.zeroPageX zp8)) s)

/-- `AND addr` (R124). -/
def execAndAbs (lo8 : Byte) (hi8 : Byte) (s : State) : StepOutcome := finish (andA (.memory (.absolute lo8 hi8)) s)

/-- `AND addr,X` (R124). -/
def execAndAbsX (lo8 : Byte) (hi8 : Byte) (s : State) : StepOutcome := finish (andA (.memory (.absoluteX lo8 hi8)) s)

/-- `AND addr,Y` (R124). -/
def execAndAbsY (lo8 : Byte) (hi8 : Byte) (s : State) : StepOutcome := finish (andA (.memory (.absoluteY lo8 hi8)) s)

/-- `AND (zp8,X)` (R124). -/
def execAndIndX (zp8 : Byte) (s : State) : StepOutcome := finish (andA (.memory (.indirectX zp8)) s)

/-- `AND (zp8),Y` (R124). -/
def execAndIndY (zp8 : Byte) (s : State) : StepOutcome := finish (andA (.memory (.indirectY zp8)) s)

/-- `ORA #imm8` (R125). -/
def execOraImm (imm8 : Byte) (s : State) : StepOutcome := finish (orA (.immediate imm8) s)

/-- `ORA zp8` (R125). -/
def execOraZp (zp8 : Byte) (s : State) : StepOutcome := finish (orA (.memory (.zeroPage zp8)) s)

/-- `ORA zp8,X` (R125). -/
def execOraZpX (zp8 : Byte) (s : State) : StepOutcome := finish (orA (.memory (.zeroPageX zp8)) s)

/-- `ORA addr` (R125). -/
def execOraAbs (lo8 : Byte) (hi8 : Byte) (s : State) : StepOutcome := finish (orA (.memory (.absolute lo8 hi8)) s)

/-- `ORA addr,X` (R125). -/
def execOraAbsX (lo8 : Byte) (hi8 : Byte) (s : State) : StepOutcome := finish (orA (.memory (.absoluteX lo8 hi8)) s)

/-- `ORA addr,Y` (R125). -/
def execOraAbsY (lo8 : Byte) (hi8 : Byte) (s : State) : StepOutcome := finish (orA (.memory (.absoluteY lo8 hi8)) s)

/-- `ORA (zp8,X)` (R125). -/
def execOraIndX (zp8 : Byte) (s : State) : StepOutcome := finish (orA (.memory (.indirectX zp8)) s)

/-- `ORA (zp8),Y` (R125). -/
def execOraIndY (zp8 : Byte) (s : State) : StepOutcome := finish (orA (.memory (.indirectY zp8)) s)

/-- `EOR #imm8` (R126). -/
def execEorImm (imm8 : Byte) (s : State) : StepOutcome := finish (eorA (.immediate imm8) s)

/-- `EOR zp8` (R126). -/
def execEorZp (zp8 : Byte) (s : State) : StepOutcome := finish (eorA (.memory (.zeroPage zp8)) s)

/-- `EOR zp8,X` (R126). -/
def execEorZpX (zp8 : Byte) (s : State) : StepOutcome := finish (eorA (.memory (.zeroPageX zp8)) s)

/-- `EOR addr` (R126). -/
def execEorAbs (lo8 : Byte) (hi8 : Byte) (s : State) : StepOutcome := finish (eorA (.memory (.absolute lo8 hi8)) s)

/-- `EOR addr,X` (R126). -/
def execEorAbsX (lo8 : Byte) (hi8 : Byte) (s : State) : StepOutcome := finish (eorA (.memory (.absoluteX lo8 hi8)) s)

/-- `EOR addr,Y` (R126). -/
def execEorAbsY (lo8 : Byte) (hi8 : Byte) (s : State) : StepOutcome := finish (eorA (.memory (.absoluteY lo8 hi8)) s)

/-- `EOR (zp8,X)` (R126). -/
def execEorIndX (zp8 : Byte) (s : State) : StepOutcome := finish (eorA (.memory (.indirectX zp8)) s)

/-- `EOR (zp8),Y` (R126). -/
def execEorIndY (zp8 : Byte) (s : State) : StepOutcome := finish (eorA (.memory (.indirectY zp8)) s)

end Sys2Proof.Machine
end

