-- ==== Sys2Proof/Machine/Break.lean ====
section
/-! DEFINITION. Software interrupt, return from interrupt, no operation (46_break_return_nop.md). -/

namespace Sys2Proof.Machine

/-- BRK (R190): it takes the exception Break, always. -/
def forceBreak (s : State) : Result State := takeBreak s

/-- RTI (R191). -/
def returnInterrupt (s : State) : Result State := returnFromHandler s

/-- NOP (R192). -/
def noOperation (s : State) : Result State := pure (s.advance 1)

/-! ### One meaning for each opcode -/

/-- `BRK` (R190). -/
def execBrk (s : State) : StepOutcome := finish (forceBreak s)

/-- `RTI` (R191). -/
def execRti (s : State) : StepOutcome := finish (returnInterrupt s)

/-- `NOP` (R192). -/
def execNop (s : State) : StepOutcome := finish (noOperation s)

end Sys2Proof.Machine
end

