-- ==== Sys2Proof/Machine/FlagOps.lean ====
section
/-! DEFINITION. Flag set and clear (42_flag_ops.md): each writes one bit of P and nothing else. -/

namespace Sys2Proof.Machine

/-- Write P and go to the next instruction, one byte further. -/
def writeFlags (p : Status) (s : State) : Result State := pure ((s.withP p).advance 1)

/-- SEC (R130). -/
def setCarry (s : State) : Result State := writeFlags { s.p with c := true } s

/-- CLC (R131). -/
def clearCarry (s : State) : Result State := writeFlags { s.p with c := false } s

/-- SEI (R132). -/
def setInterruptDisable (s : State) : Result State := writeFlags { s.p with i := true } s

/-- CLI (R133). -/
def clearInterruptDisable (s : State) : Result State := writeFlags { s.p with i := false } s

/-- SED (R134). -/
def setDecimal (s : State) : Result State := writeFlags { s.p with d := true } s

/-- CLD (R135). -/
def clearDecimal (s : State) : Result State := writeFlags { s.p with d := false } s

/-- CLV (R136). -/
def clearOverflow (s : State) : Result State := writeFlags { s.p with v := false } s

/-! ### One meaning for each opcode -/

/-- `SEC` (R130). -/
def execSec (s : State) : StepOutcome := finish (setCarry s)

/-- `CLC` (R131). -/
def execClc (s : State) : StepOutcome := finish (clearCarry s)

/-- `SEI` (R132). -/
def execSei (s : State) : StepOutcome := finish (setInterruptDisable s)

/-- `CLI` (R133). -/
def execCli (s : State) : StepOutcome := finish (clearInterruptDisable s)

/-- `SED` (R134). -/
def execSed (s : State) : StepOutcome := finish (setDecimal s)

/-- `CLD` (R135). -/
def execCld (s : State) : StepOutcome := finish (clearDecimal s)

/-- `CLV` (R136). -/
def execClv (s : State) : StepOutcome := finish (clearOverflow s)

end Sys2Proof.Machine
end

