-- ==== Sys2Proof/Machine/Index.lean ====
section
/-! DEFINITION. Index register instructions (44_index_ops.md). -/

namespace Sys2Proof.Machine

/-- LDX (R160). -/
def loadX (src : Source) (s : State) : Result State := do
  let v ← operandByte src s
  pure (((s.withP (setNZ s.p v)).withX v).advance src.operand.length)

/-- LDY (R161). -/
def loadY (src : Source) (s : State) : Result State := do
  let v ← operandByte src s
  pure (((s.withP (setNZ s.p v)).withY v).advance src.operand.length)

/-- STX (R162): one write, no read of the target, no flag. -/
def storeX (m : MemMode) (s : State) : Result State := do
  let addr ← effectiveAddress m s
  let t ← store addr s.x s
  pure (t.advance m.length)

/-- STY (R163): one write, no read of the target, no flag. -/
def storeY (m : MemMode) (s : State) : Result State := do
  let addr ← effectiveAddress m s
  let t ← store addr s.y s
  pure (t.advance m.length)

/-- Write X, set N and Z from it, go to the next instruction, one byte further. -/
def writeX (v : Byte) (s : State) : Result State := pure (((s.withP (setNZ s.p v)).withX v).advance 1)

/-- Write Y, set N and Z from it, go to the next instruction, one byte further. -/
def writeY (v : Byte) (s : State) : Result State := pure (((s.withP (setNZ s.p v)).withY v).advance 1)

/-- Write A, set N and Z from it, go to the next instruction, one byte further. -/
def writeA (v : Byte) (s : State) : Result State := pure (((s.withP (setNZ s.p v)).withA v).advance 1)

/-- INX (R164): modulo 256. -/
def incrementX (s : State) : Result State := writeX (s.x + 1) s

/-- INY (R165, C15): modulo 256. -/
def incrementY (s : State) : Result State := writeY (s.y + 1) s

/-- DEX (R166): modulo 256. -/
def decrementX (s : State) : Result State := writeX (s.x - 1) s

/-- DEY (R167, C15): modulo 256. -/
def decrementY (s : State) : Result State := writeY (s.y - 1) s

/-- CPX (R168). -/
def compareX (src : Source) (s : State) : Result State := compareRegister s.x src s

/-- CPY (R169). -/
def compareY (src : Source) (s : State) : Result State := compareRegister s.y src s

/-- TAX (R170). -/
def transferAToX (s : State) : Result State := writeX s.a s

/-- TXA (R171). -/
def transferXToA (s : State) : Result State := writeA s.x s

/-- TAY (R172). -/
def transferAToY (s : State) : Result State := writeY s.a s

/-- TYA (R173). -/
def transferYToA (s : State) : Result State := writeA s.y s

/-! ### One meaning for each opcode -/

/-- `LDX #imm8` (R160). -/
def execLdxImm (imm8 : Byte) (s : State) : StepOutcome := finish (loadX (.immediate imm8) s)

/-- `LDX zp8` (R160). -/
def execLdxZp (zp8 : Byte) (s : State) : StepOutcome := finish (loadX (.memory (.zeroPage zp8)) s)

/-- `LDX zp8,Y` (R160). -/
def execLdxZpY (zp8 : Byte) (s : State) : StepOutcome := finish (loadX (.memory (.zeroPageY zp8)) s)

/-- `LDX addr` (R160). -/
def execLdxAbs (lo8 : Byte) (hi8 : Byte) (s : State) : StepOutcome := finish (loadX (.memory (.absolute lo8 hi8)) s)

/-- `LDX addr,Y` (R160). -/
def execLdxAbsY (lo8 : Byte) (hi8 : Byte) (s : State) : StepOutcome := finish (loadX (.memory (.absoluteY lo8 hi8)) s)

/-- `LDY #imm8` (R161). -/
def execLdyImm (imm8 : Byte) (s : State) : StepOutcome := finish (loadY (.immediate imm8) s)

/-- `LDY zp8` (R161). -/
def execLdyZp (zp8 : Byte) (s : State) : StepOutcome := finish (loadY (.memory (.zeroPage zp8)) s)

/-- `LDY zp8,X` (R161). -/
def execLdyZpX (zp8 : Byte) (s : State) : StepOutcome := finish (loadY (.memory (.zeroPageX zp8)) s)

/-- `LDY addr` (R161). -/
def execLdyAbs (lo8 : Byte) (hi8 : Byte) (s : State) : StepOutcome := finish (loadY (.memory (.absolute lo8 hi8)) s)

/-- `LDY addr,X` (R161). -/
def execLdyAbsX (lo8 : Byte) (hi8 : Byte) (s : State) : StepOutcome := finish (loadY (.memory (.absoluteX lo8 hi8)) s)

/-- `STX zp8` (R162). -/
def execStxZp (zp8 : Byte) (s : State) : StepOutcome := finish (storeX (.zeroPage zp8) s)

/-- `STX zp8,Y` (R162). -/
def execStxZpY (zp8 : Byte) (s : State) : StepOutcome := finish (storeX (.zeroPageY zp8) s)

/-- `STX addr` (R162). -/
def execStxAbs (lo8 : Byte) (hi8 : Byte) (s : State) : StepOutcome := finish (storeX (.absolute lo8 hi8) s)

/-- `STY zp8` (R163). -/
def execStyZp (zp8 : Byte) (s : State) : StepOutcome := finish (storeY (.zeroPage zp8) s)

/-- `STY zp8,X` (R163). -/
def execStyZpX (zp8 : Byte) (s : State) : StepOutcome := finish (storeY (.zeroPageX zp8) s)

/-- `STY addr` (R163). -/
def execStyAbs (lo8 : Byte) (hi8 : Byte) (s : State) : StepOutcome := finish (storeY (.absolute lo8 hi8) s)

/-- `INX` (R164). -/
def execInx (s : State) : StepOutcome := finish (incrementX s)

/-- `INY` (R165). -/
def execIny (s : State) : StepOutcome := finish (incrementY s)

/-- `DEX` (R166). -/
def execDex (s : State) : StepOutcome := finish (decrementX s)

/-- `DEY` (R167). -/
def execDey (s : State) : StepOutcome := finish (decrementY s)

/-- `CPX #imm8` (R168). -/
def execCpxImm (imm8 : Byte) (s : State) : StepOutcome := finish (compareX (.immediate imm8) s)

/-- `CPX zp8` (R168). -/
def execCpxZp (zp8 : Byte) (s : State) : StepOutcome := finish (compareX (.memory (.zeroPage zp8)) s)

/-- `CPX addr` (R168). -/
def execCpxAbs (lo8 : Byte) (hi8 : Byte) (s : State) : StepOutcome := finish (compareX (.memory (.absolute lo8 hi8)) s)

/-- `CPY #imm8` (R169). -/
def execCpyImm (imm8 : Byte) (s : State) : StepOutcome := finish (compareY (.immediate imm8) s)

/-- `CPY zp8` (R169). -/
def execCpyZp (zp8 : Byte) (s : State) : StepOutcome := finish (compareY (.memory (.zeroPage zp8)) s)

/-- `CPY addr` (R169). -/
def execCpyAbs (lo8 : Byte) (hi8 : Byte) (s : State) : StepOutcome := finish (compareY (.memory (.absolute lo8 hi8)) s)

/-- `TAX` (R170). -/
def execTax (s : State) : StepOutcome := finish (transferAToX s)

/-- `TXA` (R171). -/
def execTxa (s : State) : StepOutcome := finish (transferXToA s)

/-- `TAY` (R172). -/
def execTay (s : State) : StepOutcome := finish (transferAToY s)

/-- `TYA` (R173). -/
def execTya (s : State) : StepOutcome := finish (transferYToA s)

end Sys2Proof.Machine
end

