-- ==== Sys2Proof/Machine/Shift.lean ====
section
/-! DEFINITION. Shifts, rotates, memory increment and decrement (47_shift_memory.md). -/

namespace Sys2Proof.Machine

/-- Read, modify and write one byte of memory (R58): `ea()` once, one read, one write to the same address; N and Z from
the new byte, the carry as the operation leaves it, the flags also where the address is not writable (R204). -/
def modifyMemory (f : Byte → Bool → Shifted) (m : MemMode) (s : State) : Result State := do
  let addr ← effectiveAddress m s
  let v ← load addr s
  let r := f v s.p.c
  let t ← store addr r.value (s.withP (setNZC s.p r.value r.carry))
  pure (t.advance m.length)

/-- A shift or rotate of the accumulator (R102, R200 to R203). -/
def modifyAccumulator (f : Byte → Bool → Shifted) (s : State) : Result State :=
  let r := f s.a s.p.c
  pure (((s.withP (setNZC s.p r.value r.carry)).withA r.value).advance 1)

/-- A shift or rotate of its target. -/
def modify (f : Byte → Bool → Shifted) (target : Target) (s : State) : Result State :=
  match target with
  | .accumulator => modifyAccumulator f s
  | .memory m => modifyMemory f m s

/-- LSR (R200). -/
def logicalShiftRight (target : Target) (s : State) : Result State := modify shiftRight target s

/-- ASL (R201). -/
def arithmeticShiftLeft (target : Target) (s : State) : Result State := modify shiftLeft target s

/-- ROL (R202). -/
def rotateLeftThroughCarry (target : Target) (s : State) : Result State := modify rotateLeft target s

/-- ROR (R203). -/
def rotateRightThroughCarry (target : Target) (s : State) : Result State := modify rotateRight target s

/-- INC (R204): modulo 256; C is not written. -/
def incrementMemory (m : MemMode) (s : State) : Result State := modifyMemory (fun v c => ⟨v + 1, c⟩) m s

/-- DEC (R205): modulo 256; C is not written. -/
def decrementMemory (m : MemMode) (s : State) : Result State := modifyMemory (fun v c => ⟨v - 1, c⟩) m s

/-! ### One meaning for each opcode -/

/-- `LSR A` (R200). -/
def execLsrAcc (s : State) : StepOutcome := finish (logicalShiftRight .accumulator s)

/-- `LSR zp8` (R200). -/
def execLsrZp (zp8 : Byte) (s : State) : StepOutcome := finish (logicalShiftRight (.memory (.zeroPage zp8)) s)

/-- `LSR zp8,X` (R200). -/
def execLsrZpX (zp8 : Byte) (s : State) : StepOutcome := finish (logicalShiftRight (.memory (.zeroPageX zp8)) s)

/-- `LSR addr` (R200). -/
def execLsrAbs (lo8 : Byte) (hi8 : Byte) (s : State) : StepOutcome := finish (logicalShiftRight (.memory (.absolute lo8 hi8)) s)

/-- `LSR addr,X` (R200). -/
def execLsrAbsX (lo8 : Byte) (hi8 : Byte) (s : State) : StepOutcome := finish (logicalShiftRight (.memory (.absoluteX lo8 hi8)) s)

/-- `ASL A` (R201). -/
def execAslAcc (s : State) : StepOutcome := finish (arithmeticShiftLeft .accumulator s)

/-- `ASL zp8` (R201). -/
def execAslZp (zp8 : Byte) (s : State) : StepOutcome := finish (arithmeticShiftLeft (.memory (.zeroPage zp8)) s)

/-- `ASL zp8,X` (R201). -/
def execAslZpX (zp8 : Byte) (s : State) : StepOutcome := finish (arithmeticShiftLeft (.memory (.zeroPageX zp8)) s)

/-- `ASL addr` (R201). -/
def execAslAbs (lo8 : Byte) (hi8 : Byte) (s : State) : StepOutcome := finish (arithmeticShiftLeft (.memory (.absolute lo8 hi8)) s)

/-- `ASL addr,X` (R201). -/
def execAslAbsX (lo8 : Byte) (hi8 : Byte) (s : State) : StepOutcome := finish (arithmeticShiftLeft (.memory (.absoluteX lo8 hi8)) s)

/-- `ROL A` (R202). -/
def execRolAcc (s : State) : StepOutcome := finish (rotateLeftThroughCarry .accumulator s)

/-- `ROL zp8` (R202). -/
def execRolZp (zp8 : Byte) (s : State) : StepOutcome := finish (rotateLeftThroughCarry (.memory (.zeroPage zp8)) s)

/-- `ROL zp8,X` (R202). -/
def execRolZpX (zp8 : Byte) (s : State) : StepOutcome := finish (rotateLeftThroughCarry (.memory (.zeroPageX zp8)) s)

/-- `ROL addr` (R202). -/
def execRolAbs (lo8 : Byte) (hi8 : Byte) (s : State) : StepOutcome := finish (rotateLeftThroughCarry (.memory (.absolute lo8 hi8)) s)

/-- `ROL addr,X` (R202). -/
def execRolAbsX (lo8 : Byte) (hi8 : Byte) (s : State) : StepOutcome := finish (rotateLeftThroughCarry (.memory (.absoluteX lo8 hi8)) s)

/-- `ROR A` (R203). -/
def execRorAcc (s : State) : StepOutcome := finish (rotateRightThroughCarry .accumulator s)

/-- `ROR zp8` (R203). -/
def execRorZp (zp8 : Byte) (s : State) : StepOutcome := finish (rotateRightThroughCarry (.memory (.zeroPage zp8)) s)

/-- `ROR zp8,X` (R203). -/
def execRorZpX (zp8 : Byte) (s : State) : StepOutcome := finish (rotateRightThroughCarry (.memory (.zeroPageX zp8)) s)

/-- `ROR addr` (R203). -/
def execRorAbs (lo8 : Byte) (hi8 : Byte) (s : State) : StepOutcome := finish (rotateRightThroughCarry (.memory (.absolute lo8 hi8)) s)

/-- `ROR addr,X` (R203). -/
def execRorAbsX (lo8 : Byte) (hi8 : Byte) (s : State) : StepOutcome := finish (rotateRightThroughCarry (.memory (.absoluteX lo8 hi8)) s)

/-- `INC zp8` (R204). -/
def execIncZp (zp8 : Byte) (s : State) : StepOutcome := finish (incrementMemory (.zeroPage zp8) s)

/-- `INC zp8,X` (R204). -/
def execIncZpX (zp8 : Byte) (s : State) : StepOutcome := finish (incrementMemory (.zeroPageX zp8) s)

/-- `INC addr` (R204). -/
def execIncAbs (lo8 : Byte) (hi8 : Byte) (s : State) : StepOutcome := finish (incrementMemory (.absolute lo8 hi8) s)

/-- `INC addr,X` (R204). -/
def execIncAbsX (lo8 : Byte) (hi8 : Byte) (s : State) : StepOutcome := finish (incrementMemory (.absoluteX lo8 hi8) s)

/-- `DEC zp8` (R205). -/
def execDecZp (zp8 : Byte) (s : State) : StepOutcome := finish (decrementMemory (.zeroPage zp8) s)

/-- `DEC zp8,X` (R205). -/
def execDecZpX (zp8 : Byte) (s : State) : StepOutcome := finish (decrementMemory (.zeroPageX zp8) s)

/-- `DEC addr` (R205). -/
def execDecAbs (lo8 : Byte) (hi8 : Byte) (s : State) : StepOutcome := finish (decrementMemory (.absolute lo8 hi8) s)

/-- `DEC addr,X` (R205). -/
def execDecAbsX (lo8 : Byte) (hi8 : Byte) (s : State) : StepOutcome := finish (decrementMemory (.absoluteX lo8 hi8) s)

end Sys2Proof.Machine
end

