-- ==== Sys2Proof/Machine/Stack.lean ====
section
/-! DEFINITION. Subroutine call and return, pushes and pulls, stack pointer transfers (45_stack_subroutine.md). -/

namespace Sys2Proof.Machine

/-- JSR (R182): the pushed value is the address of the last byte of the JSR; both operand bytes are read before. -/
def jumpSubroutine (lo8 hi8 : Byte) (s : State) : Result State := do
  let t ← pushWord (s.pc + 2) s
  pure (t.withPc (word lo8 hi8))

/-- RTS (R183): the pulled address plus 1, modulo 65536; P is not restored. -/
def returnSubroutine (s : State) : Result State := do
  let (target, t) ← pullWord s
  pure (t.withPc (target + 1))

/-- PHA (R184). -/
def pushA (s : State) : Result State := do
  let t ← push s.a s
  pure (t.advance 1)

/-- PLA (R185, C13, C14): A receives the byte, N and Z are set from it. -/
def pullA (s : State) : Result State := do
  let (v, t) ← pull s
  pure (((t.withP (setNZ t.p v)).withA v).advance 1)

/-- TXS (R186): no flag. -/
def transferXToSp (s : State) : Result State := pure ((s.withSp s.x).advance 1)

/-- TSX (R187): N and Z from the value of SP. -/
def transferSpToX (s : State) : Result State := pure (((s.withP (setNZ s.p s.sp)).withX s.sp).advance 1)

/-- PHP (R188). -/
def pushStatus (s : State) : Result State := do
  let t ← push (pushedStatus s.cfg.bModel s.p) s
  pure (t.advance 1)

/-- PLP (R189). -/
def pullStatus (s : State) : Result State := do
  let (v, t) ← pull s
  pure ((t.withP (pulledStatus t.cfg.bModel t.p v)).advance 1)

/-! ### One meaning for each opcode -/

/-- `JSR addr` (R182). -/
def execJsr (lo8 : Byte) (hi8 : Byte) (s : State) : StepOutcome := finish (jumpSubroutine lo8 hi8 s)

/-- `RTS` (R183). -/
def execRts (s : State) : StepOutcome := finish (returnSubroutine s)

/-- `PHA` (R184). -/
def execPha (s : State) : StepOutcome := finish (pushA s)

/-- `PLA` (R185). -/
def execPla (s : State) : StepOutcome := finish (pullA s)

/-- `TXS` (R186). -/
def execTxs (s : State) : StepOutcome := finish (transferXToSp s)

/-- `TSX` (R187). -/
def execTsx (s : State) : StepOutcome := finish (transferSpToX s)

/-- `PHP` (R188). -/
def execPhp (s : State) : StepOutcome := finish (pushStatus s)

/-- `PLP` (R189). -/
def execPlp (s : State) : StepOutcome := finish (pullStatus s)

end Sys2Proof.Machine
end

