-- ==== Sys2Proof/Machine/Dispatch.lean ====
section
/-! DEFINITION. The dispatch: one arm per constructor of `Instr`, one direct call of its meaning. -/

namespace Sys2Proof.Machine

open Sys2Proof

def exec (i : Instr) (s : State) : Host.Outcome State Fault Refusal :=
  match i with
  -- Accumulator load, store, arithmetic and logic (41)
  | .ldaImm imm8 => Sys2Proof.Machine.execLdaImm imm8 s
  | .ldaZp zp8 => Sys2Proof.Machine.execLdaZp zp8 s
  | .ldaZpX zp8 => Sys2Proof.Machine.execLdaZpX zp8 s
  | .ldaAbs lo8 hi8 => Sys2Proof.Machine.execLdaAbs lo8 hi8 s
  | .ldaAbsX lo8 hi8 => Sys2Proof.Machine.execLdaAbsX lo8 hi8 s
  | .ldaAbsY lo8 hi8 => Sys2Proof.Machine.execLdaAbsY lo8 hi8 s
  | .ldaIndX zp8 => Sys2Proof.Machine.execLdaIndX zp8 s
  | .ldaIndY zp8 => Sys2Proof.Machine.execLdaIndY zp8 s
  | .staZp zp8 => Sys2Proof.Machine.execStaZp zp8 s
  | .staZpX zp8 => Sys2Proof.Machine.execStaZpX zp8 s
  | .staAbs lo8 hi8 => Sys2Proof.Machine.execStaAbs lo8 hi8 s
  | .staAbsX lo8 hi8 => Sys2Proof.Machine.execStaAbsX lo8 hi8 s
  | .staAbsY lo8 hi8 => Sys2Proof.Machine.execStaAbsY lo8 hi8 s
  | .staIndX zp8 => Sys2Proof.Machine.execStaIndX zp8 s
  | .staIndY zp8 => Sys2Proof.Machine.execStaIndY zp8 s
  | .adcImm imm8 => Sys2Proof.Machine.execAdcImm imm8 s
  | .adcZp zp8 => Sys2Proof.Machine.execAdcZp zp8 s
  | .adcZpX zp8 => Sys2Proof.Machine.execAdcZpX zp8 s
  | .adcAbs lo8 hi8 => Sys2Proof.Machine.execAdcAbs lo8 hi8 s
  | .adcAbsX lo8 hi8 => Sys2Proof.Machine.execAdcAbsX lo8 hi8 s
  | .adcAbsY lo8 hi8 => Sys2Proof.Machine.execAdcAbsY lo8 hi8 s
  | .adcIndX zp8 => Sys2Proof.Machine.execAdcIndX zp8 s
  | .adcIndY zp8 => Sys2Proof.Machine.execAdcIndY zp8 s
  | .sbcImm imm8 => Sys2Proof.Machine.execSbcImm imm8 s
  | .sbcZp zp8 => Sys2Proof.Machine.execSbcZp zp8 s
  | .sbcZpX zp8 => Sys2Proof.Machine.execSbcZpX zp8 s
  | .sbcAbs lo8 hi8 => Sys2Proof.Machine.execSbcAbs lo8 hi8 s
  | .sbcAbsX lo8 hi8 => Sys2Proof.Machine.execSbcAbsX lo8 hi8 s
  | .sbcAbsY lo8 hi8 => Sys2Proof.Machine.execSbcAbsY lo8 hi8 s
  | .sbcIndX zp8 => Sys2Proof.Machine.execSbcIndX zp8 s
  | .sbcIndY zp8 => Sys2Proof.Machine.execSbcIndY zp8 s
  | .andImm imm8 => Sys2Proof.Machine.execAndImm imm8 s
  | .andZp zp8 => Sys2Proof.Machine.execAndZp zp8 s
  | .andZpX zp8 => Sys2Proof.Machine.execAndZpX zp8 s
  | .andAbs lo8 hi8 => Sys2Proof.Machine.execAndAbs lo8 hi8 s
  | .andAbsX lo8 hi8 => Sys2Proof.Machine.execAndAbsX lo8 hi8 s
  | .andAbsY lo8 hi8 => Sys2Proof.Machine.execAndAbsY lo8 hi8 s
  | .andIndX zp8 => Sys2Proof.Machine.execAndIndX zp8 s
  | .andIndY zp8 => Sys2Proof.Machine.execAndIndY zp8 s
  | .oraImm imm8 => Sys2Proof.Machine.execOraImm imm8 s
  | .oraZp zp8 => Sys2Proof.Machine.execOraZp zp8 s
  | .oraZpX zp8 => Sys2Proof.Machine.execOraZpX zp8 s
  | .oraAbs lo8 hi8 => Sys2Proof.Machine.execOraAbs lo8 hi8 s
  | .oraAbsX lo8 hi8 => Sys2Proof.Machine.execOraAbsX lo8 hi8 s
  | .oraAbsY lo8 hi8 => Sys2Proof.Machine.execOraAbsY lo8 hi8 s
  | .oraIndX zp8 => Sys2Proof.Machine.execOraIndX zp8 s
  | .oraIndY zp8 => Sys2Proof.Machine.execOraIndY zp8 s
  | .eorImm imm8 => Sys2Proof.Machine.execEorImm imm8 s
  | .eorZp zp8 => Sys2Proof.Machine.execEorZp zp8 s
  | .eorZpX zp8 => Sys2Proof.Machine.execEorZpX zp8 s
  | .eorAbs lo8 hi8 => Sys2Proof.Machine.execEorAbs lo8 hi8 s
  | .eorAbsX lo8 hi8 => Sys2Proof.Machine.execEorAbsX lo8 hi8 s
  | .eorAbsY lo8 hi8 => Sys2Proof.Machine.execEorAbsY lo8 hi8 s
  | .eorIndX zp8 => Sys2Proof.Machine.execEorIndX zp8 s
  | .eorIndY zp8 => Sys2Proof.Machine.execEorIndY zp8 s
  -- Flag set and clear (42)
  | .sec => Sys2Proof.Machine.execSec s
  | .clc => Sys2Proof.Machine.execClc s
  | .sei => Sys2Proof.Machine.execSei s
  | .cli => Sys2Proof.Machine.execCli s
  | .sed => Sys2Proof.Machine.execSed s
  | .cld => Sys2Proof.Machine.execCld s
  | .clv => Sys2Proof.Machine.execClv s
  -- Branches, jump, compare, bit test (43)
  | .bmi rel8 => Sys2Proof.Machine.execBmi rel8 s
  | .bpl rel8 => Sys2Proof.Machine.execBpl rel8 s
  | .bcc rel8 => Sys2Proof.Machine.execBcc rel8 s
  | .bcs rel8 => Sys2Proof.Machine.execBcs rel8 s
  | .beq rel8 => Sys2Proof.Machine.execBeq rel8 s
  | .bne rel8 => Sys2Proof.Machine.execBne rel8 s
  | .bvs rel8 => Sys2Proof.Machine.execBvs rel8 s
  | .bvc rel8 => Sys2Proof.Machine.execBvc rel8 s
  | .jmpAbs lo8 hi8 => Sys2Proof.Machine.execJmpAbs lo8 hi8 s
  | .jmpInd lo8 hi8 => Sys2Proof.Machine.execJmpInd lo8 hi8 s
  | .cmpImm imm8 => Sys2Proof.Machine.execCmpImm imm8 s
  | .cmpZp zp8 => Sys2Proof.Machine.execCmpZp zp8 s
  | .cmpZpX zp8 => Sys2Proof.Machine.execCmpZpX zp8 s
  | .cmpAbs lo8 hi8 => Sys2Proof.Machine.execCmpAbs lo8 hi8 s
  | .cmpAbsX lo8 hi8 => Sys2Proof.Machine.execCmpAbsX lo8 hi8 s
  | .cmpAbsY lo8 hi8 => Sys2Proof.Machine.execCmpAbsY lo8 hi8 s
  | .cmpIndX zp8 => Sys2Proof.Machine.execCmpIndX zp8 s
  | .cmpIndY zp8 => Sys2Proof.Machine.execCmpIndY zp8 s
  | .bitZp zp8 => Sys2Proof.Machine.execBitZp zp8 s
  | .bitAbs lo8 hi8 => Sys2Proof.Machine.execBitAbs lo8 hi8 s
  -- Index registers (44)
  | .ldxImm imm8 => Sys2Proof.Machine.execLdxImm imm8 s
  | .ldxZp zp8 => Sys2Proof.Machine.execLdxZp zp8 s
  | .ldxZpY zp8 => Sys2Proof.Machine.execLdxZpY zp8 s
  | .ldxAbs lo8 hi8 => Sys2Proof.Machine.execLdxAbs lo8 hi8 s
  | .ldxAbsY lo8 hi8 => Sys2Proof.Machine.execLdxAbsY lo8 hi8 s
  | .ldyImm imm8 => Sys2Proof.Machine.execLdyImm imm8 s
  | .ldyZp zp8 => Sys2Proof.Machine.execLdyZp zp8 s
  | .ldyZpX zp8 => Sys2Proof.Machine.execLdyZpX zp8 s
  | .ldyAbs lo8 hi8 => Sys2Proof.Machine.execLdyAbs lo8 hi8 s
  | .ldyAbsX lo8 hi8 => Sys2Proof.Machine.execLdyAbsX lo8 hi8 s
  | .stxZp zp8 => Sys2Proof.Machine.execStxZp zp8 s
  | .stxZpY zp8 => Sys2Proof.Machine.execStxZpY zp8 s
  | .stxAbs lo8 hi8 => Sys2Proof.Machine.execStxAbs lo8 hi8 s
  | .styZp zp8 => Sys2Proof.Machine.execStyZp zp8 s
  | .styZpX zp8 => Sys2Proof.Machine.execStyZpX zp8 s
  | .styAbs lo8 hi8 => Sys2Proof.Machine.execStyAbs lo8 hi8 s
  | .inx => Sys2Proof.Machine.execInx s
  | .iny => Sys2Proof.Machine.execIny s
  | .dex => Sys2Proof.Machine.execDex s
  | .dey => Sys2Proof.Machine.execDey s
  | .cpxImm imm8 => Sys2Proof.Machine.execCpxImm imm8 s
  | .cpxZp zp8 => Sys2Proof.Machine.execCpxZp zp8 s
  | .cpxAbs lo8 hi8 => Sys2Proof.Machine.execCpxAbs lo8 hi8 s
  | .cpyImm imm8 => Sys2Proof.Machine.execCpyImm imm8 s
  | .cpyZp zp8 => Sys2Proof.Machine.execCpyZp zp8 s
  | .cpyAbs lo8 hi8 => Sys2Proof.Machine.execCpyAbs lo8 hi8 s
  | .tax => Sys2Proof.Machine.execTax s
  | .txa => Sys2Proof.Machine.execTxa s
  | .tay => Sys2Proof.Machine.execTay s
  | .tya => Sys2Proof.Machine.execTya s
  -- Stack and subroutines (45)
  | .jsr lo8 hi8 => Sys2Proof.Machine.execJsr lo8 hi8 s
  | .rts => Sys2Proof.Machine.execRts s
  | .pha => Sys2Proof.Machine.execPha s
  | .pla => Sys2Proof.Machine.execPla s
  | .txs => Sys2Proof.Machine.execTxs s
  | .tsx => Sys2Proof.Machine.execTsx s
  | .php => Sys2Proof.Machine.execPhp s
  | .plp => Sys2Proof.Machine.execPlp s
  -- BRK, RTI, NOP (46)
  | .brk => Sys2Proof.Machine.execBrk s
  | .rti => Sys2Proof.Machine.execRti s
  | .nop => Sys2Proof.Machine.execNop s
  -- Shifts, INC, DEC (47)
  | .lsrAcc => Sys2Proof.Machine.execLsrAcc s
  | .lsrZp zp8 => Sys2Proof.Machine.execLsrZp zp8 s
  | .lsrZpX zp8 => Sys2Proof.Machine.execLsrZpX zp8 s
  | .lsrAbs lo8 hi8 => Sys2Proof.Machine.execLsrAbs lo8 hi8 s
  | .lsrAbsX lo8 hi8 => Sys2Proof.Machine.execLsrAbsX lo8 hi8 s
  | .aslAcc => Sys2Proof.Machine.execAslAcc s
  | .aslZp zp8 => Sys2Proof.Machine.execAslZp zp8 s
  | .aslZpX zp8 => Sys2Proof.Machine.execAslZpX zp8 s
  | .aslAbs lo8 hi8 => Sys2Proof.Machine.execAslAbs lo8 hi8 s
  | .aslAbsX lo8 hi8 => Sys2Proof.Machine.execAslAbsX lo8 hi8 s
  | .rolAcc => Sys2Proof.Machine.execRolAcc s
  | .rolZp zp8 => Sys2Proof.Machine.execRolZp zp8 s
  | .rolZpX zp8 => Sys2Proof.Machine.execRolZpX zp8 s
  | .rolAbs lo8 hi8 => Sys2Proof.Machine.execRolAbs lo8 hi8 s
  | .rolAbsX lo8 hi8 => Sys2Proof.Machine.execRolAbsX lo8 hi8 s
  | .rorAcc => Sys2Proof.Machine.execRorAcc s
  | .rorZp zp8 => Sys2Proof.Machine.execRorZp zp8 s
  | .rorZpX zp8 => Sys2Proof.Machine.execRorZpX zp8 s
  | .rorAbs lo8 hi8 => Sys2Proof.Machine.execRorAbs lo8 hi8 s
  | .rorAbsX lo8 hi8 => Sys2Proof.Machine.execRorAbsX lo8 hi8 s
  | .incZp zp8 => Sys2Proof.Machine.execIncZp zp8 s
  | .incZpX zp8 => Sys2Proof.Machine.execIncZpX zp8 s
  | .incAbs lo8 hi8 => Sys2Proof.Machine.execIncAbs lo8 hi8 s
  | .incAbsX lo8 hi8 => Sys2Proof.Machine.execIncAbsX lo8 hi8 s
  | .decZp zp8 => Sys2Proof.Machine.execDecZp zp8 s
  | .decZpX zp8 => Sys2Proof.Machine.execDecZpX zp8 s
  | .decAbs lo8 hi8 => Sys2Proof.Machine.execDecAbs lo8 hi8 s
  | .decAbsX lo8 hi8 => Sys2Proof.Machine.execDecAbsX lo8 hi8 s

end Sys2Proof.Machine
end

