-- ==== Sys2Proof/Machine/Fetch.lean ====
section
/-! DEFINITION. Fetching and decoding the instruction at PC (R84, R70), and placing one there. -/

namespace Sys2Proof.Machine

/-- Read the operand bytes of an opcode row in address order and build the instruction (R59, R84). -/
def fetchOperands (r : OpcodeRow) (s : State) : Result Instr :=
  match r.length with
  | 1 => pure (r.build 0 0)
  | 2 => do
    let b1 ← load (s.pc + 1) s
    pure (r.build b1 0)
  | _ => do
    let b1 ← load (s.pc + 1) s
    let b2 ← load (s.pc + 2) s
    pure (r.build b1 b2)

/-- Fetch and decode (R84): the opcode byte selects the row; a Future Expansion opcode, or a ROR opcode where the part
has no ROR, is refused before any further byte is read (R88, R89). -/
def fetch (s : State) : Result Instr := do
  let op ← load s.pc s
  match opcodeRow op with
  | none => throw (.futureExpansion op)
  | some r =>
    if (r.build 0 0).wellFormed s.cfg then fetchOperands r s else throw (.futureExpansion op)

/-- Three bytes placed in memory from PC on, as the platform's image places a program (R62). -/
def placeAtPc (b0 b1 b2 : Byte) (s : State) : Memory :=
  ((s.mem.write s.pc.toNat b0).write (s.pc + 1).toNat b1).write (s.pc + 2).toNat b2

end Sys2Proof.Machine
end

