-- ==== Sys2Proof/Machine/Run.lean ====
section
/-! DEFINITION. Running one instruction: fetch, decode, execute, and the cycles it adds to the ghost total. -/

namespace Sys2Proof.Machine

/-- Add the cycles of an instruction to the ghost total; a refusal adds nothing (R274). -/
def chargeCycles (n : Nat) : StepOutcome → StepOutcome
  | .next t => .next (t.withClk (t.clk + n))
  | .fault r => .fault r
  | .refused r => .refused r

/-- Fetch, decode and execute one instruction at PC (R84). -/
def runInstruction (s : State) : StepOutcome :=
  match fetch s with
  | .error r => .refused r
  | .ok i => chargeCycles (cycles i s) (exec i s)

end Sys2Proof.Machine
end

