-- ==== Sys2Proof/Machine/Step.lean ====
section
/-! DEFINITION. One step of the machine (R233): take the event that is due, else fetch, decode and execute one
instruction; and the placing of an instruction where the next step fetches it. -/

namespace Sys2Proof.Machine

/-- One step (R233). -/
def step (s : State) : Host.Outcome State Fault Refusal :=
  match dueEvent s with
  | some e => finish (takeEvent e (sample s))
  | none => runInstruction (sample s)

/-- The state with an instruction, given as `nbits` bits of `w`, placed at PC, and with no event due, so that the next
step runs it (entry 26). -/
def State.withFetchWord (s : State) (nbits w : Nat) : State :=
  let v := w % 2 ^ nbits
  { s with
    mem := placeAtPc (tableByte v 0) (tableByte v 1) (tableByte v 2) s
    irqLine := false
    nmiPending := false
    env := [] }

end Sys2Proof.Machine
end

