-- ==== Sys2Proof/Assembly.lean ====
section
/-! DEFINITION. The assembler form of each instruction (R92): the three-letter mnemonic in upper case and the operand
with `$` numbers. A printer only: the machine runs bytes, and nothing in it reads these strings (R91, R93). -/

namespace Sys2Proof

/-- The three-letter mnemonic, upper case (R1, R92). -/
def Mnemonic.text : Mnemonic → String
  | .lda => "LDA" | .sta => "STA" | .adc => "ADC" | .sbc => "SBC" | .and => "AND" | .ora => "ORA" | .eor => "EOR"
  | .sec => "SEC" | .clc => "CLC" | .sei => "SEI" | .cli => "CLI" | .sed => "SED" | .cld => "CLD" | .clv => "CLV"
  | .bmi => "BMI" | .bpl => "BPL" | .bcc => "BCC" | .bcs => "BCS" | .beq => "BEQ" | .bne => "BNE" | .bvs => "BVS"
  | .bvc => "BVC" | .jmp => "JMP" | .cmp => "CMP" | .bit => "BIT"
  | .ldx => "LDX" | .ldy => "LDY" | .stx => "STX" | .sty => "STY" | .inx => "INX" | .iny => "INY" | .dex => "DEX"
  | .dey => "DEY" | .cpx => "CPX" | .cpy => "CPY" | .tax => "TAX" | .txa => "TXA" | .tay => "TAY" | .tya => "TYA"
  | .jsr => "JSR" | .rts => "RTS" | .pha => "PHA" | .pla => "PLA" | .txs => "TXS" | .tsx => "TSX" | .php => "PHP"
  | .plp => "PLP" | .brk => "BRK" | .rti => "RTI" | .nop => "NOP"
  | .lsr => "LSR" | .asl => "ASL" | .rol => "ROL" | .ror => "ROR" | .inc => "INC" | .dec => "DEC"

/-- One hexadecimal digit of a number below 16. -/
def hexDigit (n : Nat) : String :=
  ["0", "1", "2", "3", "4", "5", "6", "7", "8", "9", "A", "B", "C", "D", "E", "F"].getD n "0"

/-- A byte as two hexadecimal digits. -/
def hexByte (b : Byte) : String := hexDigit (b.toNat / 16) ++ hexDigit (b.toNat % 16)

/-- A zero-page operand, or the displacement byte of a branch: `$` and two digits (R92). -/
def byteText (b : Byte) : String := "$" ++ hexByte b

/-- An absolute operand: `$` and four digits, the high byte first (R92). -/
def wordText (lo8 hi8 : Byte) : String := "$" ++ hexByte hi8 ++ hexByte lo8

/-- The operand of a memory format (R92). -/
def MemMode.text : MemMode → String
  | .zeroPage zp8 => byteText zp8
  | .zeroPageX zp8 => byteText zp8 ++ ",X"
  | .zeroPageY zp8 => byteText zp8 ++ ",Y"
  | .absolute lo8 hi8 => wordText lo8 hi8
  | .absoluteX lo8 hi8 => wordText lo8 hi8 ++ ",X"
  | .absoluteY lo8 hi8 => wordText lo8 hi8 ++ ",Y"
  | .indirectX zp8 => "(" ++ byteText zp8 ++ ",X)"
  | .indirectY zp8 => "(" ++ byteText zp8 ++ "),Y"

/-- What follows the mnemonic (R92); of the two spellings of the accumulator form the one with `A`. -/
def Operand.text : Operand → String
  | .implied => ""
  | .accumulator => " A"
  | .immediate imm8 => " #" ++ byteText imm8
  | .memory m => " " ++ m.text
  | .relative rel8 => " " ++ byteText rel8
  | .indirect lo8 hi8 => " (" ++ wordText lo8 hi8 ++ ")"

/-- The assembler form of an instruction (R92). -/
def Instr.text (i : Instr) : String := i.mnemonic.text ++ i.operand.text

end Sys2Proof
end

