-- ==== Sys2Proof/Safety.lean ====
section
/-! DEFINITION. The terms in which claims speak of the machine: accessible addresses, what a store leaves, which
addresses a format reads to form its address, runs and how a run ends (R240, D25), the invariant of the state. -/

namespace Sys2Proof.Machine

/-- None of these addresses is a device's (R62): every access to them has a meaning. -/
def accessible (s : State) (addrs : List Word) : Prop := ∀ a ∈ addrs, s.isIo a = false

/-- What a location holds after a store of a byte to it: the byte where `Writable`, else what it held (R57). -/
def storedByte (s : State) (addr : Word) (v : Byte) : Byte := if s.isWritable addr then v else s.byteAt addr

/-- Every location outside the listed ones reads in `t` as in `s`. -/
def sameMemoryOutside (addrs : List Word) (s t : State) : Prop := ∀ a, a ∉ addrs → t.byteAt a = s.byteAt a

/-- Every location reads in `t` as in `s`. -/
def sameMemory (s t : State) : Prop := ∀ a, t.byteAt a = s.byteAt a

/-- The place of the `k`-th coming push, counting from 0 (R180). -/
def pushSlot (s : State) (k : Nat) : Word := stackAddr (s.sp - BitVec.ofNat 8 k)

/-- The place of the `k`-th coming pull, counting from 1 (R181). -/
def pullSlot (s : State) (k : Nat) : Word := stackAddr (s.sp + BitVec.ofNat 8 k)

/-- The addresses a format reads to form the effective address: the pointer bytes of the indirect formats (R112, R113). -/
def pointerAddrs (m : MemMode) (s : State) : List Word :=
  match m with
  | .indirectX zp8 => [zext16 (zp8 + s.x), zext16 (zp8 + s.x + 1)]
  | .indirectY zp8 => [zext16 zp8, zext16 (zp8 + 1)]
  | .zeroPage _ | .zeroPageX _ | .zeroPageY _ | .absolute _ _ | .absoluteX _ _ | .absoluteY _ _ => []

/-- The instruction the bytes at PC decode to under the parameters (R84), with all three bytes read. -/
def decodedAtPc (s : State) : Decoded := decodeFor s.cfg [s.byteAt s.pc, s.byteAt (s.pc + 1), s.byteAt (s.pc + 2)]

/-- The addresses of the bytes of an instruction at PC (R81). -/
def instructionAddrs (i : Instr) (s : State) : List Word :=
  (List.range i.length).map (fun k => s.pc + BitVec.ofNat 16 k)

/-- The 105 Future Expansion opcodes, in the ascending order in which R88 lists them. -/
def futureExpansionOpcodes : List Byte := [
    0x02, 0x03, 0x04, 0x07, 0x0B, 0x0C, 0x0F, 0x12, 0x13, 0x14, 0x17, 0x1A, 0x1B, 0x1C, 0x1F, 0x22, 0x23, 0x27,
    0x2B, 0x2F, 0x32, 0x33, 0x34, 0x37, 0x3A, 0x3B, 0x3C, 0x3F, 0x42, 0x43, 0x44, 0x47, 0x4B, 0x4F, 0x52, 0x53,
    0x54, 0x57, 0x5A, 0x5B, 0x5C, 0x5F, 0x62, 0x63, 0x64, 0x67, 0x6B, 0x6F, 0x72, 0x73, 0x74, 0x77, 0x7A, 0x7B,
    0x7C, 0x7F, 0x80, 0x82, 0x83, 0x87, 0x89, 0x8B, 0x8F, 0x92, 0x93, 0x97, 0x9B, 0x9C, 0x9E, 0x9F, 0xA3, 0xA7,
    0xAB, 0xAF, 0xB2, 0xB3, 0xB7, 0xBB, 0xBF, 0xC2, 0xC3, 0xC7, 0xCB, 0xCF, 0xD2, 0xD3, 0xD4, 0xD7, 0xDA, 0xDB,
    0xDC, 0xDF, 0xE2, 0xE3, 0xE7, 0xEB, 0xEF, 0xF2, 0xF3, 0xF4, 0xF7, 0xFA, 0xFB, 0xFC, 0xFF]

/-- The form of a one-byte instruction: its byte, and its cycles in every state (R81, R271). -/
def oneByteForm (i : Instr) (op : Byte) (n : Nat) : Prop :=
  encode i = [op] ∧ decode [op] = .instr i [] ∧ ∀ s, cycles i s = n

/-- The value of a BCD byte, 0 to 99 (R12). -/
def bcdValue (v : Byte) : Nat := v.toNat / 16 * 10 + v.toNat % 16

/-- An outcome whose next state has PC `k` further on; a stop stays as it is. -/
def movePc (k : Word) : StepOutcome → StepOutcome
  | .next t => .next (t.withPc (t.pc + k))
  | .fault r => .fault r
  | .refused r => .refused r

/-- The invariant of the state: the memory keeps its canonical form, all of it inside the address space (R50). -/
def State.Inv (s : State) : Prop := s.mem.wf = true

/-! ### Runs (R240, D25) -/

/-- `n` steps from one state lead to another. -/
def runsTo (n : Nat) (s t : State) : Prop := Sys2Proof.core.run n s = .next t

/-- A run that no refusal ever stops. -/
def safeRun (s : State) : Prop := ∀ n, ∃ t, runsTo n s t

/-- Run for at most `fuel` steps, until the platform's end of the run (R240, D25): a predicate on the state at a
boundary, the start of the run among them, or on a step's two ends; none where neither is reached or a refusal stops the
run, which is never a successful end. -/
def runToEnd (atBoundary : State → Bool) (afterStep : State → State → Bool) : Nat → State → Option State
  | 0, s => if atBoundary s then some s else none
  | fuel + 1, s =>
    if atBoundary s then some s
    else match step s with
      | .next t => if afterStep s t then some t else runToEnd atBoundary afterStep fuel t
      | .fault _ => none
      | .refused _ => none

/-- The two ends of a run that D25 names; any other predicate is an argument of `runToEnd`. -/
inductive RunEnd where
  /-- PC equals an agreed address, `HaltPC`, at a boundary. -/
  | haltPc (addr : Word)
  /-- The instruction just executed left PC at its own address. -/
  | selfJump
  deriving DecidableEq, Repr

/-- The end is reached at the boundary before a step: PC is `HaltPC`. The boundary's inputs are not looked at (entry 28). -/
def RunEnd.atBoundary (e : RunEnd) (s : State) : Bool :=
  match e with
  | .haltPc addr => s.pc == addr
  | .selfJump => false

/-- The end is reached with the step from `s` to `t`: an instruction, not an event, left PC where it was. -/
def RunEnd.afterStep (e : RunEnd) (s t : State) : Bool :=
  match e with
  | .haltPc _ => false
  | .selfJump => (dueEvent s).isNone && t.pc == s.pc

/-- Run for at most `fuel` steps, until one of the two named ends. -/
def runUntil (e : RunEnd) (fuel : Nat) (s : State) : Option State := runToEnd e.atBoundary e.afterStep fuel s

end Sys2Proof.Machine
end

