-- ==== Sys2Proof/Certificates/Slice0/Obligations.lean ====
section
/-! DEFINITION. The statements for the provers, from the numbered rules of the spec. An equation with a record update
states the whole frame: every field it does not name is unchanged. A statement about a state that reads or writes
memory names the addresses; `accessible` says that none of them is a device's (R62). -/

open Sys2Proof Sys2Proof.Machine

/-! ### Encoding (30_encoding.md) -/

/-- R80, R81, R84 to R86: decoding the bytes of any instruction the part has, whatever follows, gives it back. -/
def Obligations.DecodeUndoesEncode : Prop :=
  ∀ (cfg : Config) (i : Instr) (rest : List Byte),
    i.wellFormed cfg = true → decodeFor cfg (encode i ++ rest) = .instr i rest

/-- R80, R81: bytes that decode to an instruction are its encoding and what follows; no two byte strings share one. -/
def Obligations.EncodeUndoesDecode : Prop :=
  ∀ (bytes rest : List Byte) (i : Instr), decode bytes = .instr i rest → bytes = encode i ++ rest

/-- R88: the 105 listed opcodes, and no others, have no row, and a step that fetches one is refused by its name. -/
def Obligations.FutureExpansionIsRefused : Prop :=
  futureExpansionOpcodes.length = 105 ∧
  (∀ op : Byte, opcodeRow op = none ↔ op ∈ futureExpansionOpcodes) ∧
  ∀ s : State, dueEvent s = none → s.isIo s.pc = false → s.byteAt s.pc ∈ futureExpansionOpcodes →
    step s = .refused (.futureExpansion (s.byteAt s.pc))

/-- R81, R85: words written out from the spec's encodings decode to the instructions they stand for. -/
def Obligations.WrittenWordsDecode : Prop :=
  decode [0xA9, 0x0A] = .instr (.ldaImm 0x0A) [] ∧
  decode [0xAD, 0xF6, 0x31] = .instr (.ldaAbs 0xF6 0x31) [] ∧
  decode [0xB1, 0x4C] = .instr (.ldaIndY 0x4C) [] ∧
  decode [0x38] = .instr .sec [] ∧
  decode [0xF0, 0xA7] = .instr (.beq 0xA7) [] ∧
  decode [0x6C, 0x5F, 0x21] = .instr (.jmpInd 0x5F 0x21) [] ∧
  decode [0xB6, 0xF0] = .instr (.ldxZpY 0xF0) [] ∧
  decode [0x20, 0x34, 0x12] = .instr (.jsr 0x34 0x12) [] ∧
  decode [0x40] = .instr .rti [] ∧
  decode [0x4A] = .instr .lsrAcc [] ∧
  decode [0x3E, 0x00, 0x02] = .instr (.rolAbsX 0x00 0x02) []

/-- R5, R89: on a part without ROR the five ROR opcodes are refused as Future Expansion. -/
def Obligations.AbsentRorIsRefused : Prop :=
  ∀ s : State, dueEvent s = none → s.cfg.hasRor = false → s.isIo s.pc = false →
    s.byteAt s.pc ∈ ([0x66, 0x6A, 0x6E, 0x76, 0x7E] : List Byte) →
    step s = .refused (.futureExpansion (s.byteAt s.pc))

/-! ### The step (60_exceptions.md) -/

/-- R84, R233: at a boundary where no event is due, the step runs the instruction that the bytes at PC decode to, in
the state sampled there, and adds its cycles. -/
def Obligations.StepRunsDecodedInstruction : Prop :=
  ∀ (s : State) (i : Instr) (rest : List Byte), dueEvent s = none → decodedAtPc s = .instr i rest →
    accessible s (instructionAddrs i s) →
    step s = chargeCycles (cycles i (sample s)) (exec i (sample s))

/-- R232, R233: RESET first, then NMI, then IRQ, which alone I masks; else one instruction. That a requested RESET is taken
also where HAS_IRQ and HAS_NMI are false, a machine that R228 says has no asynchronous event at all, is the model's
choice (entry 36). -/
def Obligations.BoundaryTakesEventByPriority : Prop :=
  ∀ s t : State, t = sample s →
    (resetRequested s = true → step s = finish (takeReset t)) ∧
    (resetRequested s = false → (t.cfg.hasNmi && t.nmiPending) = true → step s = finish (takeNmi t)) ∧
    (resetRequested s = false → (t.cfg.hasNmi && t.nmiPending) = false →
      (t.cfg.hasIrq && t.irqLine && !t.p.i) = true → step s = finish (takeIrq t)) ∧
    (resetRequested s = false → (t.cfg.hasNmi && t.nmiPending) = false →
      (t.cfg.hasIrq && t.irqLine && !t.p.i) = false → step s = runInstruction t)

/-- R229, R230: the line is a level, an edge sets the latch and is lost while it is set, and sampling changes nothing
but the three inputs. That the line keeps its level when the schedule has ended is the model's choice (entry 16). -/
def Obligations.SamplingReadsTheInputs : Prop :=
  ∀ s : State,
    (s.env = [] → sample s = s ∧ resetRequested s = false) ∧
    (∀ (e : Boundary) (rest : List Boundary), s.env = e :: rest →
      resetRequested s = e.reset ∧
      sample s = { s with env := rest, irqLine := e.irq,
                          nmiPending := s.nmiPending || (s.cfg.hasNmi && e.nmiEdge) })

/-- R229, R225, R274: an IRQ pushes the boundary PC and P with bit 4 = 0, sets I, goes to the vector at $FFFE, adds 7
cycles, and changes nothing else. -/
def Obligations.IrqEntersHandler : Prop :=
  ∀ s u : State, dueEvent s = some .irq → u = sample s →
    accessible u [pushSlot u 0, pushSlot u 1, pushSlot u 2, 0xFFFE, 0xFFFF] →
    ∃ t, step s = .next t ∧
      t = { u with sp := u.sp - 3, p := { u.p with i := true },
                   pc := word (u.byteAt 0xFFFE) (u.byteAt 0xFFFF), mem := t.mem, clk := u.clk + 7 } ∧
      t.byteAt (pushSlot u 0) = storedByte u (pushSlot u 0) (hiByte u.pc) ∧
      t.byteAt (pushSlot u 1) = storedByte u (pushSlot u 1) (loByte u.pc) ∧
      t.byteAt (pushSlot u 2) = storedByte u (pushSlot u 2) (u.p.byteWith false) ∧
      sameMemoryOutside [pushSlot u 0, pushSlot u 1, pushSlot u 2] u t

/-- R230: an NMI does the same through the vector at $FFFA whatever I is, and clears its latch. -/
def Obligations.NmiEntersHandler : Prop :=
  ∀ s u : State, dueEvent s = some .nmi → u = sample s →
    accessible u [pushSlot u 0, pushSlot u 1, pushSlot u 2, 0xFFFA, 0xFFFB] →
    ∃ t, step s = .next t ∧
      t = { u with sp := u.sp - 3, p := { u.p with i := true }, nmiPending := false,
                   pc := word (u.byteAt 0xFFFA) (u.byteAt 0xFFFB), mem := t.mem, clk := u.clk + 7 } ∧
      t.byteAt (pushSlot u 0) = storedByte u (pushSlot u 0) (hiByte u.pc) ∧
      t.byteAt (pushSlot u 1) = storedByte u (pushSlot u 1) (loByte u.pc) ∧
      t.byteAt (pushSlot u 2) = storedByte u (pushSlot u 2) (u.p.byteWith false) ∧
      sameMemoryOutside [pushSlot u 0, pushSlot u 1, pushSlot u 2] u t

/-- R231, R260: a RESET event loads PC from $FFFC, sets I, clears the latch, leaves memory and the inputs alone. The
other registers are left open. That it is due also where HAS_IRQ and HAS_NMI are false is the model's choice (entry 36). -/
def Obligations.ResetEventLoadsVector : Prop :=
  ∀ s u : State, dueEvent s = some .reset → u = sample s → accessible u [0xFFFC, 0xFFFD] →
    ∃ t, step s = .next t ∧ t.pc = word (u.byteAt 0xFFFC) (u.byteAt 0xFFFD) ∧ t.p.i = true ∧
      t.p.toByte.getLsbD 5 = true ∧ t.nmiPending = false ∧ t.mem = u.mem ∧ t.irqLine = u.irqLine ∧
      t.env = u.env ∧ t.cfg = u.cfg

/-! ### Memory and the stack (20_memory.md, 45_stack_subroutine.md) -/

/-- R56, R57: a read answers what the location holds and a write changes that location alone, and only where it is
writable; either is refused exactly at a device's address. -/
def Obligations.LoadAndStoreReachOneLocation : Prop :=
  ∀ (s : State) (a : Word) (v : Byte),
    (s.isIo a = false → load a s = .ok (s.byteAt a) ∧
      ∃ t, store a v s = .ok t ∧ t = { s with mem := t.mem } ∧
        t.byteAt a = (if s.isWritable a then v else s.byteAt a) ∧ sameMemoryOutside [a] s t) ∧
    (s.isIo a = true → load a s = .error (.ioRead a) ∧ store a v s = .error (.ioWrite a))

/-- R180, R181: a push writes at $0100 + SP and then moves SP down; a pull moves SP up and then reads there; both
modulo 256. -/
def Obligations.PushAndPullUseTheStackPage : Prop :=
  ∀ (s : State) (v : Byte),
    (pushSlot s 0).toNat = 256 + s.sp.toNat ∧ (pullSlot s 1).toNat = 256 + (s.sp.toNat + 1) % 256 ∧
    (s.isIo (pushSlot s 0) = false →
      ∃ t, push v s = .ok t ∧ t = { s with sp := t.sp, mem := t.mem } ∧
        t.sp.toNat = (s.sp.toNat + 255) % 256 ∧ t.byteAt (pushSlot s 0) = storedByte s (pushSlot s 0) v ∧
        sameMemoryOutside [pushSlot s 0] s t) ∧
    (s.isIo (pullSlot s 1) = false →
      ∃ t, pull s = .ok (s.byteAt (pullSlot s 1), t) ∧ t = { s with sp := t.sp } ∧
        t.sp.toNat = (s.sp.toNat + 1) % 256)

/-! ### Addressing modes (40_addressing_modes.md) -/

/-- R104 to R109, R112, R113: the effective address of each format, as a number. -/
def Obligations.EffectiveAddressOfEachFormat : Prop :=
  ∀ (s : State) (b lo hi : Byte),
    (∃ a, effectiveAddress (.zeroPage b) s = .ok a ∧ a.toNat = b.toNat) ∧
    (∃ a, effectiveAddress (.zeroPageX b) s = .ok a ∧ a.toNat = (b.toNat + s.x.toNat) % 256) ∧
    (∃ a, effectiveAddress (.zeroPageY b) s = .ok a ∧ a.toNat = (b.toNat + s.y.toNat) % 256) ∧
    (∃ a, effectiveAddress (.absolute lo hi) s = .ok a ∧ a.toNat = hi.toNat * 256 + lo.toNat) ∧
    (∃ a, effectiveAddress (.absoluteX lo hi) s = .ok a ∧
      a.toNat = (hi.toNat * 256 + lo.toNat + s.x.toNat) % 65536) ∧
    (∃ a, effectiveAddress (.absoluteY lo hi) s = .ok a ∧
      a.toNat = (hi.toNat * 256 + lo.toNat + s.y.toNat) % 65536) ∧
    (∀ p q : Word, p.toNat = (b.toNat + s.x.toNat) % 256 → q.toNat = (b.toNat + s.x.toNat + 1) % 256 →
      accessible s [p, q] → ∃ a, effectiveAddress (.indirectX b) s = .ok a ∧
        a.toNat = (s.byteAt q).toNat * 256 + (s.byteAt p).toNat) ∧
    (∀ p q : Word, p.toNat = b.toNat → q.toNat = (b.toNat + 1) % 256 → accessible s [p, q] →
      ∃ a, effectiveAddress (.indirectY b) s = .ok a ∧
        a.toNat = ((s.byteAt q).toNat * 256 + (s.byteAt p).toNat + s.y.toNat) % 65536)

/-- R100, R103: the operand byte is byte 1 for immediate, else the byte at the effective address, which is formed
whenever the pointer bytes are accessible. -/
def Obligations.OperandByteOfEachForm : Prop :=
  ∀ (s : State) (v : Byte) (m : MemMode),
    operandByte (.immediate v) s = .ok v ∧
    (accessible s (pointerAddrs m s) → ∃ a, effectiveAddress m s = .ok a) ∧
    (∀ a, effectiveAddress m s = .ok a → s.isIo a = false → operandByte (.memory m) s = .ok (s.byteAt a)) ∧
    (∀ a, effectiveAddress m s = .ok a → s.isIo a = true → operandByte (.memory m) s = .error (.ioRead a))

/-! ### Accumulator, index loads and stores (41, 44) -/

/-- R120, R160, R161: LDA, LDX and LDY copy the operand byte to their register and set N and Z from it. -/
def Obligations.LoadsCopyTheOperand : Prop :=
  ∀ (i : Instr) (src : Source) (s : State) (v : Byte), i.operand = src.operand → operandByte src s = .ok v →
    (i.mnemonic = .lda → exec i s = .next { s with
      a := v, p := { s.p with n := v.getLsbD 7, z := v == 0 }, pc := s.pc + BitVec.ofNat 16 i.length }) ∧
    (i.mnemonic = .ldx → exec i s = .next { s with
      x := v, p := { s.p with n := v.getLsbD 7, z := v == 0 }, pc := s.pc + BitVec.ofNat 16 i.length }) ∧
    (i.mnemonic = .ldy → exec i s = .next { s with
      y := v, p := { s.p with n := v.getLsbD 7, z := v == 0 }, pc := s.pc + BitVec.ofNat 16 i.length })

/-- R121, R162, R163: STA, STX and STY write their register to the effective address, where it is writable, and
change no other location, no register and no flag. -/
def Obligations.StoresWriteOneByte : Prop :=
  ∀ (i : Instr) (m : MemMode) (s : State) (v : Byte) (a : Word), i.operand = .memory m →
    effectiveAddress m s = .ok a → s.isIo a = false →
    (i.mnemonic = .sta ∧ v = s.a) ∨ (i.mnemonic = .stx ∧ v = s.x) ∨ (i.mnemonic = .sty ∧ v = s.y) →
    ∃ t, exec i s = .next t ∧ t = { s with mem := t.mem, pc := s.pc + BitVec.ofNat 16 i.length } ∧
      t.byteAt a = storedByte s a v ∧ sameMemoryOutside [a] s t

/-- R122: ADC in binary mode: the sum modulo 256, C its carry, V its signed overflow, N and Z of the new A. -/
def Obligations.AdcBinaryAddsWithCarry : Prop :=
  ∀ (i : Instr) (src : Source) (s : State) (m r : Byte), i.mnemonic = .adc → i.operand = src.operand →
    operandByte src s = .ok m → s.p.d = false → r.toNat = (s.a.toNat + m.toNat + s.p.c.toNat) % 256 →
    exec i s = .next { s with
      a := r
      p := { s.p with
        n := r.getLsbD 7
        z := r == 0
        c := decide (s.a.toNat + m.toNat + s.p.c.toNat > 255)
        v := decide (s.a.toInt + m.toInt + s.p.c.toNat < -128 ∨ s.a.toInt + m.toInt + s.p.c.toNat > 127) }
      pc := s.pc + BitVec.ofNat 16 i.length }

/-- R122: ADC in decimal mode on BCD operands: the BCD code of the sum modulo 100, C whether it exceeds 99. -/
def Obligations.AdcDecimalIsTheBcdSum : Prop :=
  ∀ (i : Instr) (src : Source) (s : State) (m : Byte) (n : Nat), i.mnemonic = .adc → i.operand = src.operand →
    operandByte src s = .ok m → s.p.d = true → validBcd s.a = true → validBcd m = true →
    n = bcdValue s.a + bcdValue m + s.p.c.toNat →
    ∃ t, exec i s = .next t ∧ validBcd t.a = true ∧ bcdValue t.a = n % 100 ∧ t.p.c = decide (n > 99) ∧
      t = { s with a := t.a, p := { s.p with n := t.p.n, v := t.p.v, z := t.p.z, c := t.p.c },
                   pc := s.pc + BitVec.ofNat 16 i.length }

/-- R122: the formula of ADC in decimal mode, for BCD operands and, where `DECIMAL_INVALID_BCD` is `source_formula`,
for any: Z from the binary sum, N and V after the low-digit correction, C after the high. -/
def Obligations.AdcDecimalFollowsTheFormula : Prop :=
  ∀ (i : Instr) (src : Source) (s : State) (m : Byte) (t t6 t60 : Nat), i.mnemonic = .adc →
    i.operand = src.operand → operandByte src s = .ok m → s.p.d = true →
    s.cfg.invalidBcd = .sourceFormula ∨ (validBcd s.a = true ∧ validBcd m = true) →
    t = s.a.toNat + m.toNat + s.p.c.toNat →
    t6 = (if s.a.toNat % 16 + m.toNat % 16 + s.p.c.toNat > 9 then t + 6 else t) →
    t60 = (if t6 > 0x99 then t6 + 0x60 else t6) →
    exec i s = .next { s with
      a := BitVec.ofNat 8 t60
      p := { s.p with
        n := t6.testBit 7
        z := decide (t % 256 = 0)
        c := decide (t60 > 0x99)
        v := (s.a ^^^ m).getLsbD 7 == false && (s.a ^^^ BitVec.ofNat 8 t6).getLsbD 7 }
      pc := s.pc + BitVec.ofNat 16 i.length }

/-- R123: SBC in binary mode: the difference modulo 256, C when no borrow was needed, V its signed overflow. -/
def Obligations.SbcBinarySubtractsWithBorrow : Prop :=
  ∀ (i : Instr) (src : Source) (s : State) (m r : Byte) (b : Nat), i.mnemonic = .sbc → i.operand = src.operand →
    operandByte src s = .ok m → s.p.d = false → b = (if s.p.c then 0 else 1) →
    r.toNat = (s.a.toNat + 256 - m.toNat + 256 - b) % 256 →
    exec i s = .next { s with
      a := r
      p := { s.p with
        n := r.getLsbD 7
        z := r == 0
        c := decide (s.a.toNat ≥ m.toNat + b)
        v := decide (s.a.toInt - m.toInt - b < -128 ∨ s.a.toInt - m.toInt - b > 127) }
      pc := s.pc + BitVec.ofNat 16 i.length }

/-- R123: SBC in decimal mode on BCD operands: the BCD code of the difference modulo 100, C whether it is not
negative; N, Z and V are those of the binary difference. -/
def Obligations.SbcDecimalIsTheBcdDifference : Prop :=
  ∀ (i : Instr) (src : Source) (s : State) (m r : Byte) (b : Nat), i.mnemonic = .sbc → i.operand = src.operand →
    operandByte src s = .ok m → s.p.d = true → validBcd s.a = true → validBcd m = true →
    b = (if s.p.c then 0 else 1) → r.toNat = (s.a.toNat + 256 - m.toNat + 256 - b) % 256 →
    ∃ t, exec i s = .next t ∧ validBcd t.a = true ∧
      bcdValue t.a = (bcdValue s.a + 200 - bcdValue m - b) % 100 ∧
      t = { s with
        a := t.a
        p := { s.p with
          n := r.getLsbD 7
          z := r == 0
          c := decide (bcdValue s.a ≥ bcdValue m + b)
          v := decide (s.a.toInt - m.toInt - b < -128 ∨ s.a.toInt - m.toInt - b > 127) }
        pc := s.pc + BitVec.ofNat 16 i.length }

/-- R123: the formula of SBC in decimal mode, for BCD operands and, where `DECIMAL_INVALID_BCD` is `source_formula`,
for any, over the integers. -/
def Obligations.SbcDecimalFollowsTheFormula : Prop :=
  ∀ (i : Instr) (src : Source) (s : State) (m r : Byte) (b t t6 t60 : Int), i.mnemonic = .sbc →
    i.operand = src.operand → operandByte src s = .ok m → s.p.d = true →
    s.cfg.invalidBcd = .sourceFormula ∨ (validBcd s.a = true ∧ validBcd m = true) →
    b = (if s.p.c then 0 else 1) → t = s.a.toNat - m.toNat - b → r = BitVec.ofInt 8 t →
    t6 = (if ((s.a.toNat % 16 : Nat) : Int) - b < ((m.toNat % 16 : Nat) : Int) then t - 6 else t) →
    t60 = (if t6 < 0 ∨ t6 > 0x99 then t6 - 0x60 else t6) →
    exec i s = .next { s with
      a := BitVec.ofInt 8 t60
      p := { s.p with
        n := r.getLsbD 7
        z := r == 0
        c := decide (0 ≤ t60 ∧ t60 < 256)
        v := (s.a ^^^ r).getLsbD 7 && (s.a ^^^ m).getLsbD 7 }
      pc := s.pc + BitVec.ofNat 16 i.length }

/-- R122, R123: where `DECIMAL_INVALID_BCD` is `refuse`, ADC and SBC in decimal mode have no meaning when the
accumulator or the operand has a digit above 9. -/
def Obligations.InvalidBcdIsRefused : Prop :=
  ∀ (i : Instr) (src : Source) (s : State) (m : Byte), i.mnemonic = .adc ∨ i.mnemonic = .sbc →
    i.operand = src.operand → operandByte src s = .ok m → s.p.d = true → s.cfg.invalidBcd = .refuse →
    (s.a.toNat % 16 > 9 ∨ s.a.toNat / 16 > 9 ∨ m.toNat % 16 > 9 ∨ m.toNat / 16 > 9) →
    exec i s = .refused (.invalidBcd s.a m)

/-- R124 to R126: AND, ORA and EOR combine A with the operand byte bit by bit and set N and Z from the new A. -/
def Obligations.LogicalOperationsWriteA : Prop :=
  ∀ (i : Instr) (src : Source) (s : State) (m r : Byte), i.operand = src.operand → operandByte src s = .ok m →
    (i.mnemonic = .and ∧ (∀ k, r.getLsbD k = (s.a.getLsbD k && m.getLsbD k))) ∨
    (i.mnemonic = .ora ∧ (∀ k, r.getLsbD k = (s.a.getLsbD k || m.getLsbD k))) ∨
    (i.mnemonic = .eor ∧ (∀ k, r.getLsbD k = (s.a.getLsbD k ^^ m.getLsbD k))) →
    exec i s = .next { s with
      a := r, p := { s.p with n := r.getLsbD 7, z := r == 0 }, pc := s.pc + BitVec.ofNat 16 i.length }

/-! ### Flags (42_flag_ops.md) -/

/-- R130 to R136: each flag instruction is one byte, takes 2 cycles, writes its bit of P and nothing else. -/
def Obligations.FlagInstructionsWriteOneBit : Prop :=
  (oneByteForm .sec 0x38 2 ∧ oneByteForm .clc 0x18 2 ∧ oneByteForm .sei 0x78 2 ∧ oneByteForm .cli 0x58 2 ∧
    oneByteForm .sed 0xF8 2 ∧ oneByteForm .cld 0xD8 2 ∧ oneByteForm .clv 0xB8 2) ∧
  ∀ s : State,
    exec .sec s = .next { s with p := { s.p with c := true }, pc := s.pc + 1 } ∧
    exec .clc s = .next { s with p := { s.p with c := false }, pc := s.pc + 1 } ∧
    exec .sei s = .next { s with p := { s.p with i := true }, pc := s.pc + 1 } ∧
    exec .cli s = .next { s with p := { s.p with i := false }, pc := s.pc + 1 } ∧
    exec .sed s = .next { s with p := { s.p with d := true }, pc := s.pc + 1 } ∧
    exec .cld s = .next { s with p := { s.p with d := false }, pc := s.pc + 1 } ∧
    exec .clv s = .next { s with p := { s.p with v := false }, pc := s.pc + 1 }

/-! ### Branches, jump, compare, bit test (43_branch_test.md) -/

/-- R140 to R148, R111: a branch goes to the target where its flag has its value, else to the next instruction; it
changes PC alone, and takes 2, 3 or 4 cycles. -/
def Obligations.BranchesGoWhereTheirFlagSays : Prop :=
  ∀ (s : State) (rel : Byte) (i : Instr) (op : Byte) (cond : Bool) (disp : Int),
    (i = .bmi rel ∧ op = 0x30 ∧ cond = s.p.n) ∨ (i = .bpl rel ∧ op = 0x10 ∧ cond = !s.p.n) ∨
    (i = .bcc rel ∧ op = 0x90 ∧ cond = !s.p.c) ∨ (i = .bcs rel ∧ op = 0xB0 ∧ cond = s.p.c) ∨
    (i = .beq rel ∧ op = 0xF0 ∧ cond = s.p.z) ∨ (i = .bne rel ∧ op = 0xD0 ∧ cond = !s.p.z) ∨
    (i = .bvs rel ∧ op = 0x70 ∧ cond = s.p.v) ∨ (i = .bvc rel ∧ op = 0x50 ∧ cond = !s.p.v) →
    disp = (match s.cfg.relDecode with
      | .twosComplement => if rel.toNat < 128 then (rel.toNat : Int) else (rel.toNat : Int) - 256
      | .signMagnitude => if rel.toNat < 128 then (rel.toNat : Int) else 128 - (rel.toNat : Int)) →
    encode i = [op, rel] ∧ decode [op, rel] = .instr i [] ∧
    ∃ target : Word, (target.toNat : Int) = (s.pc.toNat + 2 + disp) % 65536 ∧
      exec i s = .next { s with pc := if cond then target else s.pc + 2 } ∧
      cycles i s = (if cond then (if hiByte target = hiByte (s.pc + 2) then 3 else 4) else 2)

/-- R149, R107, R110: JMP writes PC alone: the absolute operand, or the two bytes read through the pointer, whose high
byte follows `JMP_IND_PAGE_WRAP` when the pointer's low byte is $FF. -/
def Obligations.JumpsLoadThePc : Prop :=
  ∀ (s : State) (lo hi : Byte),
    exec (.jmpAbs lo hi) s = .next { s with pc := word lo hi } ∧
    (∀ p q : Word, p.toNat = hi.toNat * 256 + lo.toNat →
      q.toNat = (if lo = 0xFF ∧ s.cfg.jmpIndPageWrap = true then hi.toNat * 256
        else (hi.toNat * 256 + lo.toNat + 1) % 65536) →
      accessible s [p, q] →
      exec (.jmpInd lo hi) s = .next { s with pc := word (s.byteAt p) (s.byteAt q) })

/-- R150, R168, R169: a compare sets C when the register is at least the byte, Z when they are equal, N from the 8-bit
difference, and changes nothing else, V among it. -/
def Obligations.ComparesSetThreeFlags : Prop :=
  ∀ (i : Instr) (src : Source) (s : State) (r m : Byte), i.operand = src.operand → operandByte src s = .ok m →
    (i.mnemonic = .cmp ∧ r = s.a) ∨ (i.mnemonic = .cpx ∧ r = s.x) ∨ (i.mnemonic = .cpy ∧ r = s.y) →
    exec i s = .next { s with
      p := { s.p with n := (r - m).getLsbD 7, z := decide (r = m), c := decide (m.toNat ≤ r.toNat) }
      pc := s.pc + BitVec.ofNat 16 i.length }

/-- R151: BIT copies bits 7 and 6 of the byte to N and V, sets Z when it shares no bit with A, changes nothing else. -/
def Obligations.BitTestCopiesTopBits : Prop :=
  ∀ (i : Instr) (mode : MemMode) (s : State) (m : Byte), i.mnemonic = .bit → i.operand = .memory mode →
    operandByte (.memory mode) s = .ok m →
    exec i s = .next { s with
      p := { s.p with n := m.getLsbD 7, v := m.getLsbD 6, z := (s.a &&& m) == 0 }
      pc := s.pc + BitVec.ofNat 16 i.length }

/-! ### Index registers and transfers (44, 45) -/

/-- R164 to R167: INX, INY, DEX and DEY, one byte, 2 cycles: modulo 256, N and Z from the result, C and V unchanged. -/
def Obligations.IndexRegistersCountModulo256 : Prop :=
  (oneByteForm .inx 0xE8 2 ∧ oneByteForm .iny 0xC8 2 ∧ oneByteForm .dex 0xCA 2 ∧ oneByteForm .dey 0x88 2) ∧
  ∀ (s : State) (v : Byte),
    (v.toNat = (s.x.toNat + 1) % 256 → exec .inx s = .next { s with
      x := v, p := { s.p with n := v.getLsbD 7, z := v == 0 }, pc := s.pc + 1 }) ∧
    (v.toNat = (s.y.toNat + 1) % 256 → exec .iny s = .next { s with
      y := v, p := { s.p with n := v.getLsbD 7, z := v == 0 }, pc := s.pc + 1 }) ∧
    (v.toNat = (s.x.toNat + 255) % 256 → exec .dex s = .next { s with
      x := v, p := { s.p with n := v.getLsbD 7, z := v == 0 }, pc := s.pc + 1 }) ∧
    (v.toNat = (s.y.toNat + 255) % 256 → exec .dey s = .next { s with
      y := v, p := { s.p with n := v.getLsbD 7, z := v == 0 }, pc := s.pc + 1 })

/-- R170 to R173, R186, R187: the register transfers, one byte, 2 cycles; all but TXS set N and Z from the value. -/
def Obligations.TransfersCopyARegister : Prop :=
  (oneByteForm .tax 0xAA 2 ∧ oneByteForm .txa 0x8A 2 ∧ oneByteForm .tay 0xA8 2 ∧ oneByteForm .tya 0x98 2 ∧
    oneByteForm .txs 0x9A 2 ∧ oneByteForm .tsx 0xBA 2) ∧
  ∀ s : State,
    exec .tax s = .next { s with
      x := s.a, p := { s.p with n := s.a.getLsbD 7, z := s.a == 0 }, pc := s.pc + 1 } ∧
    exec .txa s = .next { s with
      a := s.x, p := { s.p with n := s.x.getLsbD 7, z := s.x == 0 }, pc := s.pc + 1 } ∧
    exec .tay s = .next { s with
      y := s.a, p := { s.p with n := s.a.getLsbD 7, z := s.a == 0 }, pc := s.pc + 1 } ∧
    exec .tya s = .next { s with
      a := s.y, p := { s.p with n := s.y.getLsbD 7, z := s.y == 0 }, pc := s.pc + 1 } ∧
    exec .txs s = .next { s with sp := s.x, pc := s.pc + 1 } ∧
    exec .tsx s = .next { s with
      x := s.sp, p := { s.p with n := s.sp.getLsbD 7, z := s.sp == 0 }, pc := s.pc + 1 }

/-! ### Stack and subroutines (45_stack_subroutine.md) -/

/-- R182: JSR pushes the address of its own last byte, high byte first, and goes to its operand. -/
def Obligations.JsrPushesItsLastAddress : Prop :=
  ∀ (s : State) (lo hi : Byte), accessible s [pushSlot s 0, pushSlot s 1] →
    ∃ t, exec (.jsr lo hi) s = .next t ∧
      t = { s with sp := s.sp - 2, pc := word lo hi, mem := t.mem } ∧
      t.byteAt (pushSlot s 0) = storedByte s (pushSlot s 0) (hiByte (s.pc + 2)) ∧
      t.byteAt (pushSlot s 1) = storedByte s (pushSlot s 1) (loByte (s.pc + 2)) ∧
      sameMemoryOutside [pushSlot s 0, pushSlot s 1] s t

/-- R183: RTS pulls the low and then the high byte and goes one past that address; flags and memory stay. -/
def Obligations.RtsGoesPastThePulledAddress : Prop :=
  ∀ s : State, accessible s [pullSlot s 1, pullSlot s 2] →
    exec .rts s = .next { s with
      sp := s.sp + 2, pc := word (s.byteAt (pullSlot s 1)) (s.byteAt (pullSlot s 2)) + 1 }

/-- R183 (c): an RTS right after a JSR continues after the JSR with SP as before it, where the stack is writable. -/
def Obligations.RtsUndoesJsr : Prop :=
  ∀ (s t : State) (lo hi : Byte), exec (.jsr lo hi) s = .next t → s.isWritable (pushSlot s 0) = true →
    s.isWritable (pushSlot s 1) = true → exec .rts t = .next { s with pc := s.pc + 3, mem := t.mem }

/-- R184, R188: PHA and PHP push A and the byte of P, whose bit 5 is 1 and whose bit 4 is the stored B, or 1 under
`pushed_only`; no register but SP and PC changes, and no flag. -/
def Obligations.PushesWriteOneStackByte : Prop :=
  ∀ s : State, accessible s [pushSlot s 0] →
    (∃ t, exec .pha s = .next t ∧ t = { s with sp := s.sp - 1, pc := s.pc + 1, mem := t.mem } ∧
      t.byteAt (pushSlot s 0) = storedByte s (pushSlot s 0) s.a ∧ sameMemoryOutside [pushSlot s 0] s t) ∧
    (∃ t, exec .php s = .next t ∧ t = { s with sp := s.sp - 1, pc := s.pc + 1, mem := t.mem } ∧
      t.byteAt (pushSlot s 0) = storedByte s (pushSlot s 0)
        (s.p.byteWith (match s.cfg.bModel with | .stored => s.p.b | .pushedOnly => true)) ∧
      sameMemoryOutside [pushSlot s 0] s t)

/-- R185, R189: PLA pulls A and sets N and Z; PLP pulls all seven flags, or all but B under `pushed_only`; memory
stays. -/
def Obligations.PullsReadOneStackByte : Prop :=
  ∀ (s : State) (v : Byte), accessible s [pullSlot s 1] → v = s.byteAt (pullSlot s 1) →
    exec .pla s = .next { s with
      a := v, sp := s.sp + 1, p := { s.p with n := v.getLsbD 7, z := v == 0 }, pc := s.pc + 1 } ∧
    exec .plp s = .next { s with
      sp := s.sp + 1
      p := { n := v.getLsbD 7, v := v.getLsbD 6, d := v.getLsbD 3, i := v.getLsbD 2, z := v.getLsbD 1,
             c := v.getLsbD 0, b := (match s.cfg.bModel with | .stored => v.getLsbD 4 | .pushedOnly => s.p.b) }
      pc := s.pc + 1 }

/-- R180, R181, R189: a PLA right after a PHA restores A, a PLP right after a PHP restores P, and SP, where the stack
place is writable. -/
def Obligations.PullsUndoPushes : Prop :=
  ∀ s t : State, s.isWritable (pushSlot s 0) = true →
    (exec .pha s = .next t → exec .pla t = .next { s with
      p := { s.p with n := s.a.getLsbD 7, z := s.a == 0 }, pc := s.pc + 2, mem := t.mem }) ∧
    (exec .php s = .next t → exec .plp t = .next { s with pc := s.pc + 2, mem := t.mem })

/-! ### BRK, RTI, NOP (46_break_return_nop.md, 60_exceptions.md) -/

/-- R223, R190: BRK pushes the address two past itself and P with bit 4 = 1 and the old I, sets B (where it is stored)
and I, and goes to the vector at $FFFE; D and the rest are unchanged. -/
def Obligations.BrkTakesTheBreakException : Prop :=
  ∀ s : State, accessible s [pushSlot s 0, pushSlot s 1, pushSlot s 2, 0xFFFE, 0xFFFF] →
    ∃ t, exec .brk s = .next t ∧
      t = { s with
        sp := s.sp - 3
        p := { s.p with i := true, b := (match s.cfg.bModel with | .stored => true | .pushedOnly => s.p.b) }
        pc := word (s.byteAt 0xFFFE) (s.byteAt 0xFFFF)
        mem := t.mem } ∧
      t.byteAt (pushSlot s 0) = storedByte s (pushSlot s 0) (hiByte (s.pc + 2)) ∧
      t.byteAt (pushSlot s 1) = storedByte s (pushSlot s 1) (loByte (s.pc + 2)) ∧
      t.byteAt (pushSlot s 2) = storedByte s (pushSlot s 2) (s.p.byteWith true) ∧
      sameMemoryOutside [pushSlot s 0, pushSlot s 1, pushSlot s 2] s t

/-- R191, R226: RTI pulls P and then PC, low byte first, with no + 1; memory stays. -/
def Obligations.RtiRestoresStatusAndPc : Prop :=
  ∀ (s : State) (v : Byte), accessible s [pullSlot s 1, pullSlot s 2, pullSlot s 3] →
    v = s.byteAt (pullSlot s 1) →
    exec .rti s = .next { s with
      sp := s.sp + 3
      p := { n := v.getLsbD 7, v := v.getLsbD 6, d := v.getLsbD 3, i := v.getLsbD 2, z := v.getLsbD 1,
             c := v.getLsbD 0, b := (match s.cfg.bModel with | .stored => v.getLsbD 4 | .pushedOnly => s.p.b) }
      pc := word (s.byteAt (pullSlot s 2)) (s.byteAt (pullSlot s 3)) }

/-- R190 (a), R191 (b), R226: an RTI right after a BRK resumes two past the BRK with SP and P restored, B left set
where it is stored, where the three stack places are writable. -/
def Obligations.RtiUndoesBrk : Prop :=
  ∀ s t : State, exec .brk s = .next t → s.isWritable (pushSlot s 0) = true →
    s.isWritable (pushSlot s 1) = true → s.isWritable (pushSlot s 2) = true →
    exec .rti t = .next { s with
      p := { s.p with b := (match s.cfg.bModel with | .stored => true | .pushedOnly => s.p.b) }
      pc := s.pc + 2
      mem := t.mem }

/-- R226, R229: an RTI right after an IRQ entry resumes at the interrupted PC with SP and P restored, B left clear
where it is stored, where the three stack places are writable. -/
def Obligations.RtiUndoesIrq : Prop :=
  ∀ s t u : State, dueEvent s = some .irq → u = sample s → step s = .next t → s.isWritable (pushSlot s 0) = true →
    s.isWritable (pushSlot s 1) = true → s.isWritable (pushSlot s 2) = true →
    exec .rti t = .next { u with
      p := { u.p with b := (match u.cfg.bModel with | .stored => false | .pushedOnly => u.p.b) }
      mem := t.mem
      clk := u.clk + 7 }

/-- R192: NOP is one byte, takes 2 cycles and advances PC. -/
def Obligations.NopOnlyAdvancesPc : Prop :=
  oneByteForm .nop 0xEA 2 ∧ ∀ s : State, exec .nop s = .next { s with pc := s.pc + 1 }

/-! ### Shifts, INC, DEC (47_shift_memory.md) -/

/-- R200 to R203: the four shifts and rotates of the accumulator, bit by bit: what enters, what leaves to C; N and Z
from the result. -/
def Obligations.ShiftsOfTheAccumulator : Prop :=
  ∀ (s : State) (r : Byte) (c : Bool) (i : Instr),
    (i = .lsrAcc ∧ c = s.a.getLsbD 0 ∧ r.getLsbD 7 = false ∧ (∀ k, k < 7 → r.getLsbD k = s.a.getLsbD (k + 1))) ∨
    (i = .aslAcc ∧ c = s.a.getLsbD 7 ∧ r.getLsbD 0 = false ∧ (∀ k, k < 7 → r.getLsbD (k + 1) = s.a.getLsbD k)) ∨
    (i = .rolAcc ∧ c = s.a.getLsbD 7 ∧ r.getLsbD 0 = s.p.c ∧ (∀ k, k < 7 → r.getLsbD (k + 1) = s.a.getLsbD k)) ∨
    (i = .rorAcc ∧ c = s.a.getLsbD 0 ∧ r.getLsbD 7 = s.p.c ∧ (∀ k, k < 7 → r.getLsbD k = s.a.getLsbD (k + 1))) →
    exec i s = .next { s with
      a := r, p := { s.p with n := r.getLsbD 7, z := r == 0, c := c }, pc := s.pc + 1 }

/-- R200 to R205, R58: on memory, the shifts and rotates, INC and DEC write their result to the effective address they
read from, where it is writable; the flags are set either way; INC and DEC leave C. -/
def Obligations.ReadModifyWriteOfMemory : Prop :=
  ∀ (i : Instr) (mode : MemMode) (s : State) (a : Word) (m r : Byte) (c : Bool), i.operand = .memory mode →
    effectiveAddress mode s = .ok a → s.isIo a = false → m = s.byteAt a →
    (i.mnemonic = .lsr ∧ r.toNat = m.toNat / 2 ∧ c = m.getLsbD 0) ∨
    (i.mnemonic = .asl ∧ r.toNat = m.toNat * 2 % 256 ∧ c = m.getLsbD 7) ∨
    (i.mnemonic = .rol ∧ r.toNat = (m.toNat * 2 + s.p.c.toNat) % 256 ∧ c = m.getLsbD 7) ∨
    (i.mnemonic = .ror ∧ r.toNat = (m.toNat + 256 * s.p.c.toNat) / 2 ∧ c = m.getLsbD 0) ∨
    (i.mnemonic = .inc ∧ r.toNat = (m.toNat + 1) % 256 ∧ c = s.p.c) ∨
    (i.mnemonic = .dec ∧ r.toNat = (m.toNat + 255) % 256 ∧ c = s.p.c) →
    ∃ t, exec i s = .next t ∧
      t = { s with p := { s.p with n := r.getLsbD 7, z := r == 0, c := c }, mem := t.mem,
                   pc := s.pc + BitVec.ofNat 16 i.length } ∧
      t.byteAt a = storedByte s a r ∧ sameMemoryOutside [a] s t

/-! ### Devices (R56, R57, R62) -/

/-- R56, R57: an instruction that would read or write a device's address is refused: through its operand, its pointer,
its effective address, the stack or Break's vector. That ADC and SBC of an operand in a device are refused as that device
access also where D = 1, `DECIMAL_INVALID_BCD` is `refuse` and A has a digit above 9 is the model's choice (DEDUCED, entry
21). Nothing is said here of the fetch of an instruction's own bytes, nor of the entry of an IRQ, an NMI or a RESET. -/
def Obligations.DeviceAccessIsRefused : Prop :=
  (∀ (i : Instr) (src : Source) (s : State) (e : Refusal), i.operand = src.operand →
    i.mnemonic ∈ ([.lda, .ldx, .ldy, .adc, .sbc, .and, .ora, .eor, .cmp, .cpx, .cpy, .bit] : List Mnemonic) →
    operandByte src s = .error e → exec i s = .refused e) ∧
  (∀ (i : Instr) (m : MemMode) (s : State) (a : Word), i.operand = .memory m → effectiveAddress m s = .ok a →
    s.isIo a = true →
    (i.mnemonic ∈ ([.sta, .stx, .sty] : List Mnemonic) → exec i s = .refused (.ioWrite a)) ∧
    (i.mnemonic ∈ ([.lsr, .asl, .rol, .ror, .inc, .dec] : List Mnemonic) → exec i s = .refused (.ioRead a))) ∧
  (∀ (i : Instr) (m : MemMode) (s : State) (e : Refusal), i.operand = .memory m → effectiveAddress m s = .error e →
    i.mnemonic ∈ ([.sta, .stx, .sty, .lsr, .asl, .rol, .ror, .inc, .dec] : List Mnemonic) →
    exec i s = .refused e) ∧
  (∀ (s : State) (lo hi : Byte),
    (¬ accessible s [pushSlot s 0] → (∃ e, exec .pha s = .refused e) ∧ ∃ e, exec .php s = .refused e) ∧
    (¬ accessible s [pullSlot s 1] → (∃ e, exec .pla s = .refused e) ∧ ∃ e, exec .plp s = .refused e) ∧
    (¬ accessible s [pushSlot s 0, pushSlot s 1] → ∃ e, exec (.jsr lo hi) s = .refused e) ∧
    (¬ accessible s [pullSlot s 1, pullSlot s 2] → ∃ e, exec .rts s = .refused e) ∧
    (¬ accessible s [pushSlot s 0, pushSlot s 1, pushSlot s 2, 0xFFFE, 0xFFFF] → ∃ e, exec .brk s = .refused e) ∧
    (¬ accessible s [pullSlot s 1, pullSlot s 2, pullSlot s 3] → ∃ e, exec .rti s = .refused e) ∧
    (¬ accessible s [word lo hi, pointerHighAddr s.cfg.jmpIndPageWrap lo hi] →
      ∃ e, exec (.jmpInd lo hi) s = .refused e))

/-! ### The status byte and reset (10_state.md) -/

/-- R27, R33: the layout of P as a byte: N V 1 B D I Z C from bit 7 down; bit 5 reads 1 always; reading the flags back
from it gives P. -/
def Obligations.StatusByteLayout : Prop :=
  ∀ (p : Status) (bit4 : Bool),
    (p.byteWith bit4).getLsbD 7 = p.n ∧ (p.byteWith bit4).getLsbD 6 = p.v ∧ (p.byteWith bit4).getLsbD 5 = true ∧
    (p.byteWith bit4).getLsbD 4 = bit4 ∧ (p.byteWith bit4).getLsbD 3 = p.d ∧ (p.byteWith bit4).getLsbD 2 = p.i ∧
    (p.byteWith bit4).getLsbD 1 = p.z ∧ (p.byteWith bit4).getLsbD 0 = p.c ∧
    p.toByte = p.byteWith p.b ∧ Status.ofByte p.toByte = p

/-- R42, R260: what reset leaves where the spec gives a value: I = 1, bit 5 of P = 1, the NMI latch clear. -/
def Obligations.ResetStateHasTheSpecsValues : Prop :=
  State.reset.p.i = true ∧ State.reset.p.toByte.getLsbD 5 = true ∧ State.reset.nmiPending = false

/-- R42, R62, R231: a run started on a platform's image begins at the address in its reset vector, with I = 1 and the
image, the parameters and the schedule as given. That the start is refused where the vector lies in a device is the
model's choice (entry 35). -/
def Obligations.PowerOnStartsAtTheResetVector : Prop :=
  ∀ (cfg : Config) (image : Memory) (schedule : List Boundary),
    (∀ l h : Byte, image.read 0xFFFC = some l → image.read 0xFFFD = some h →
      accessible (placed cfg image schedule) [0xFFFC, 0xFFFD] →
      ∃ s, powerOn cfg image schedule = .ok s ∧ s.pc = word l h ∧ s.p.i = true ∧ s.nmiPending = false ∧
        s.mem = image ∧ s.cfg = cfg ∧ s.env = schedule) ∧
    (¬ accessible (placed cfg image schedule) [0xFFFC, 0xFFFD] → ∃ e, powerOn cfg image schedule = .error e)

/-! ### The whole machine -/

/-- R56, R57, R84, R222: where no device answers and the formulas of decimal mode apply to every byte, a step answers a
next state whenever an event is due or the bytes at PC decode to an instruction of the part: nothing else stops it. That a RESET is
due also where HAS_IRQ and HAS_NMI are false is the model's choice (entry 36). -/
def Obligations.StepAnswersWithoutDevices : Prop :=
  ∀ s : State, s.cfg.ioRegion = [] → s.cfg.invalidBcd = .sourceFormula →
    (dueEvent s ≠ none ∨ ∃ i rest, decodedAtPc s = .instr i rest) → ∃ t, step s = .next t

/-- R50, R57: every step keeps the canonical form of memory, all of it inside the address space. The form is the
model's choice (entry 3). -/
def Obligations.StepKeepsMemoryCanonical : Prop :=
  ∀ s t : State, s.Inv → step s = .next t → t.Inv

/-- The memory of the state after reset, and of a run started on any image, is canonical; the form is the model's
choice (entry 3). -/
def Obligations.StartMemoryIsCanonical : Prop :=
  State.reset.Inv ∧ ∀ (cfg : Config) (cells : List Host.Cell) (schedule : List Boundary) (s : State),
    powerOn cfg (Memory.ofCells cells) schedule = .ok s → s.Inv

/-- R57: no step, instruction or event, changes a location that is not writable. -/
def Obligations.ReadOnlyMemoryNeverChanges : Prop :=
  ∀ (s t : State) (a : Word), step s = .next t → s.isWritable a = false → t.byteAt a = s.byteAt a

/-- R43: no step changes the parameters; the ghost total and the count of drawn bytes, which are the model's own fields
(entries 4, 22, 29), never fall. -/
def Obligations.StepKeepsTheParameters : Prop :=
  ∀ s t : State, step s = .next t → t.cfg = s.cfg ∧ s.clk ≤ t.clk ∧ s.freeCount ≤ t.freeCount

/-- R37: which instruction writes which flag; B is cleared only by PLP and RTI (R32), V set only by ADC, SBC, BIT, PLP
and RTI (R34). -/
def Obligations.FlagsChangeOnlyWhereListed : Prop :=
  ∀ (i : Instr) (s t : State), exec i s = .next t →
    (t.p.n ≠ s.p.n ∨ t.p.z ≠ s.p.z → i.mnemonic ∈ ([.adc, .sbc, .and, .ora, .eor, .asl, .rol, .ror, .lsr, .cmp, .cpx,
      .cpy, .bit, .inc, .dec, .inx, .iny, .dex, .dey, .lda, .ldx, .ldy, .tax, .tay, .txa, .tya, .tsx, .pla, .plp,
      .rti] : List Mnemonic)) ∧
    (t.p.c ≠ s.p.c → i.mnemonic ∈ ([.adc, .sbc, .asl, .rol, .ror, .lsr, .cmp, .cpx, .cpy, .clc, .sec, .plp,
      .rti] : List Mnemonic)) ∧
    (t.p.v ≠ s.p.v → i.mnemonic ∈ ([.adc, .sbc, .bit, .clv, .plp, .rti] : List Mnemonic)) ∧
    (s.p.v = false → t.p.v = true → i.mnemonic ∈ ([.adc, .sbc, .bit, .plp, .rti] : List Mnemonic)) ∧
    (t.p.b ≠ s.p.b → i.mnemonic ∈ ([.brk, .plp, .rti] : List Mnemonic)) ∧
    (s.p.b = true → t.p.b = false → i.mnemonic ∈ ([.plp, .rti] : List Mnemonic)) ∧
    (t.p.d ≠ s.p.d → i.mnemonic ∈ ([.cld, .sed, .plp, .rti] : List Mnemonic)) ∧
    (t.p.i ≠ s.p.i → i.mnemonic ∈ ([.cli, .sei, .brk, .plp, .rti] : List Mnemonic))

/-- R20: which instruction writes which register; the shifts and rotates write A in their accumulator form only. -/
def Obligations.RegistersChangeOnlyWhereListed : Prop :=
  ∀ (i : Instr) (s t : State), exec i s = .next t →
    (t.a ≠ s.a → i.mnemonic ∈ ([.lda, .adc, .sbc, .and, .ora, .eor, .pla, .txa, .tya] : List Mnemonic) ∨
      i ∈ ([.aslAcc, .lsrAcc, .rolAcc, .rorAcc] : List Instr)) ∧
    (t.x ≠ s.x → i.mnemonic ∈ ([.ldx, .tax, .tsx, .inx, .dex] : List Mnemonic)) ∧
    (t.y ≠ s.y → i.mnemonic ∈ ([.ldy, .tay, .iny, .dey] : List Mnemonic)) ∧
    (t.sp ≠ s.sp → i.mnemonic ∈ ([.txs, .pha, .php, .pla, .plp, .jsr, .rts, .brk, .rti] : List Mnemonic)) ∧
    t.irqLine = s.irqLine ∧ t.nmiPending = s.nmiPending ∧ t.env = s.env ∧ t.cfg = s.cfg ∧ t.clk = s.clk ∧
    t.freeCount = s.freeCount

/-- R55, R59, R100: an instruction that is no store, no push and no read-modify-write of memory leaves every location
as it was. -/
def Obligations.OtherInstructionsKeepMemory : Prop :=
  ∀ (i : Instr) (s t : State), exec i s = .next t →
    i.mnemonic ∉ ([.sta, .stx, .sty, .inc, .dec, .pha, .php, .jsr, .brk] : List Mnemonic) →
    (i.mnemonic ∈ ([.lsr, .asl, .rol, .ror] : List Mnemonic) → i.operand = .accumulator) →
    sameMemory s t ∧ t.mem = s.mem

/-- R274: no architectural result depends on a cycle count: a step from a state whose ghost total is `k` larger is the
same step with a total `k` larger. -/
def Obligations.CycleTotalChangesNothing : Prop :=
  ∀ (s : State) (k : Nat), step { s with clk := s.clk + k } = chargeCycles k (step s)

/-- R272: the indexed reads take one cycle more exactly when the high byte of the effective address is not that of the
base; the indexed stores and read-modify-writes take their fixed count; the reads indexed in the zero page take 4. -/
def Obligations.IndexingPenaltyOfReads : Prop :=
  ∀ (i : Instr) (s : State) (lo hi z : Byte) (base : Word), base = word (s.byteAt (zext16 z)) (s.byteAt (zext16 (z + 1))) →
    (i.mnemonic ∈ ([.adc, .and, .cmp, .eor, .lda, .ora, .sbc, .ldx, .ldy] : List Mnemonic) →
      (i.operand = .memory (.absoluteX lo hi) →
        cycles i s = if (hi.toNat * 256 + lo.toNat + s.x.toNat) % 65536 / 256 = hi.toNat then 4 else 5) ∧
      (i.operand = .memory (.absoluteY lo hi) →
        cycles i s = if (hi.toNat * 256 + lo.toNat + s.y.toNat) % 65536 / 256 = hi.toNat then 4 else 5) ∧
      (i.operand = .memory (.indirectY z) →
        cycles i s = if hiByte (base + zext16 s.y) = hiByte base then 5 else 6) ∧
      (i.operand = .memory (.zeroPageX z) ∨ i.operand = .memory (.zeroPageY z) → cycles i s = 4)) ∧
    (i.mnemonic = .sta →
      (i.operand = .memory (.absoluteX lo hi) ∨ i.operand = .memory (.absoluteY lo hi) → cycles i s = 5) ∧
      (i.operand = .memory (.indirectY z) → cycles i s = 6)) ∧
    (i.mnemonic ∈ ([.asl, .lsr, .rol, .ror, .inc, .dec] : List Mnemonic) →
      i.operand = .memory (.absoluteX lo hi) → cycles i s = 7)

/-- R91: an operand in the zero page encoded in the zero-page or in the absolute format does the same thing, but for
the length. -/
def Obligations.ZeroPageAndAbsoluteAgree : Prop :=
  ∀ (i j : Instr) (s : State) (z : Byte), i.mnemonic = j.mnemonic → i.operand = .memory (.zeroPage z) →
    j.operand = .memory (.absolute z 0) → exec j s = movePc 1 (exec i s)
end

