-- ==== Sys2Proof/Laws/Memory.lean ====
section
/-! SUPPORT. The laws of memory: a read after a write, and the canonical form under every memory operation. -/

namespace Sys2Proof.Machine

theorem Memory.read_write_self (addr : Nat) (v : Byte) (m : Memory) : (m.write addr v).read addr = some v := by
  induction m with
  | nil => simp [Memory.write, Memory.read]
  | cons c rest ih =>
    obtain ⟨b, w⟩ := c
    simp only [Memory.write]
    split
    · simp [Memory.read]
    · split
      · simp [Memory.read]
      · next h => simp [Memory.read, Ne.symm h, ih]

theorem Memory.read_write_other {addr other : Nat} (h : other ≠ addr) (v : Byte) (m : Memory) :
    (m.write addr v).read other = m.read other := by
  induction m with
  | nil => simp [Memory.write, Memory.read, Ne.symm h]
  | cons c rest ih =>
    obtain ⟨b, w⟩ := c
    simp only [Memory.write]
    split
    · simp [Memory.read, Ne.symm h]
    · split
      · next hb => subst hb; simp [Memory.read, Ne.symm h]
      · simp [Memory.read, ih]

/-- A read after a write, whichever the two addresses. -/
theorem Memory.read_write (addr other : Nat) (v : Byte) (m : Memory) :
    (m.write addr v).read other = if other = addr then some v else m.read other := by
  split
  · next h => subst h; exact Memory.read_write_self _ _ _
  · next h => exact Memory.read_write_other h _ _

theorem Memory.rising_write {low addr : Nat} (v : Byte) (m : Memory) (hl : low ≤ addr) (ha : addr < 65536)
    (hm : m.rising low = true) : (m.write addr v).rising low = true := by
  induction m generalizing low with
  | nil => simp [Memory.write, Memory.rising, hl, ha]
  | cons c rest ih =>
    obtain ⟨b, w⟩ := c
    simp only [Memory.rising, Bool.and_eq_true, decide_eq_true_eq] at hm
    obtain ⟨⟨hb, hb'⟩, hr⟩ := hm
    simp only [Memory.write]
    split
    · next h => simp [Memory.rising, hl, ha, hb', hr]; omega
    · split
      · next h => subst h; simp [Memory.rising, hb, hb', hr]
      · next h1 h2 => simp [Memory.rising, hb, hb', ih (by omega) hr]

/-- A write to an address of the address space keeps the canonical form. -/
theorem Memory.wf_write {addr : Nat} (v : Byte) {m : Memory} (ha : addr < 65536) (hm : m.wf = true) :
    (m.write addr v).wf = true :=
  Memory.rising_write v m (Nat.zero_le _) ha hm

@[simp] theorem Memory.wf_nil : Memory.wf [] = true := rfl

/-- The memory made of a list of cells is canonical. -/
theorem Memory.wf_ofCells (cells : List Host.Cell) : (Memory.ofCells cells).wf = true := by
  have key : ∀ (cs : List Host.Cell) (m : Memory), m.wf = true →
      (cs.foldl (fun m c => Memory.write (c.1 % 65536) c.2 m) m).wf = true := by
    intro cs
    induction cs with
    | nil => intro m hm; exact hm
    | cons c cs ih => intro m hm; exact ih _ (Memory.wf_write _ (Nat.mod_lt _ (by decide)) hm)
  exact key cells [] Memory.wf_nil

end Sys2Proof.Machine
end

