-- ==== Sys2Proof/Laws/State.lean ====
section
/-! SUPPORT. One lemma per field per update of the state, true by `rfl`; the updates under the reads of memory. -/

namespace Sys2Proof.Machine

/-! ### `withA` -/

@[simp] theorem State.withA_a (s : State) (v : Byte) : (s.withA v).a = v := rfl
@[simp] theorem State.withA_x (s : State) (v : Byte) : (s.withA v).x = s.x := rfl
@[simp] theorem State.withA_y (s : State) (v : Byte) : (s.withA v).y = s.y := rfl
@[simp] theorem State.withA_sp (s : State) (v : Byte) : (s.withA v).sp = s.sp := rfl
@[simp] theorem State.withA_p (s : State) (v : Byte) : (s.withA v).p = s.p := rfl
@[simp] theorem State.withA_pc (s : State) (v : Byte) : (s.withA v).pc = s.pc := rfl
@[simp] theorem State.withA_mem (s : State) (v : Byte) : (s.withA v).mem = s.mem := rfl
@[simp] theorem State.withA_irqLine (s : State) (v : Byte) : (s.withA v).irqLine = s.irqLine := rfl
@[simp] theorem State.withA_nmiPending (s : State) (v : Byte) : (s.withA v).nmiPending = s.nmiPending := rfl
@[simp] theorem State.withA_env (s : State) (v : Byte) : (s.withA v).env = s.env := rfl
@[simp] theorem State.withA_cfg (s : State) (v : Byte) : (s.withA v).cfg = s.cfg := rfl
@[simp] theorem State.withA_clk (s : State) (v : Byte) : (s.withA v).clk = s.clk := rfl
@[simp] theorem State.withA_freeCount (s : State) (v : Byte) : (s.withA v).freeCount = s.freeCount := rfl
@[simp] theorem State.withA_isIo (s : State) (v : Byte) (a : Word) : (s.withA v).isIo a = s.isIo a := rfl
@[simp] theorem State.withA_isWritable (s : State) (v : Byte) (a : Word) :
    (s.withA v).isWritable a = s.isWritable a := rfl
@[simp] theorem State.withA_byteAt (s : State) (v : Byte) (a : Word) :
    (s.withA v).byteAt a = s.byteAt a := rfl

/-! ### `withX` -/

@[simp] theorem State.withX_a (s : State) (v : Byte) : (s.withX v).a = s.a := rfl
@[simp] theorem State.withX_x (s : State) (v : Byte) : (s.withX v).x = v := rfl
@[simp] theorem State.withX_y (s : State) (v : Byte) : (s.withX v).y = s.y := rfl
@[simp] theorem State.withX_sp (s : State) (v : Byte) : (s.withX v).sp = s.sp := rfl
@[simp] theorem State.withX_p (s : State) (v : Byte) : (s.withX v).p = s.p := rfl
@[simp] theorem State.withX_pc (s : State) (v : Byte) : (s.withX v).pc = s.pc := rfl
@[simp] theorem State.withX_mem (s : State) (v : Byte) : (s.withX v).mem = s.mem := rfl
@[simp] theorem State.withX_irqLine (s : State) (v : Byte) : (s.withX v).irqLine = s.irqLine := rfl
@[simp] theorem State.withX_nmiPending (s : State) (v : Byte) : (s.withX v).nmiPending = s.nmiPending := rfl
@[simp] theorem State.withX_env (s : State) (v : Byte) : (s.withX v).env = s.env := rfl
@[simp] theorem State.withX_cfg (s : State) (v : Byte) : (s.withX v).cfg = s.cfg := rfl
@[simp] theorem State.withX_clk (s : State) (v : Byte) : (s.withX v).clk = s.clk := rfl
@[simp] theorem State.withX_freeCount (s : State) (v : Byte) : (s.withX v).freeCount = s.freeCount := rfl
@[simp] theorem State.withX_isIo (s : State) (v : Byte) (a : Word) : (s.withX v).isIo a = s.isIo a := rfl
@[simp] theorem State.withX_isWritable (s : State) (v : Byte) (a : Word) :
    (s.withX v).isWritable a = s.isWritable a := rfl
@[simp] theorem State.withX_byteAt (s : State) (v : Byte) (a : Word) :
    (s.withX v).byteAt a = s.byteAt a := rfl

/-! ### `withY` -/

@[simp] theorem State.withY_a (s : State) (v : Byte) : (s.withY v).a = s.a := rfl
@[simp] theorem State.withY_x (s : State) (v : Byte) : (s.withY v).x = s.x := rfl
@[simp] theorem State.withY_y (s : State) (v : Byte) : (s.withY v).y = v := rfl
@[simp] theorem State.withY_sp (s : State) (v : Byte) : (s.withY v).sp = s.sp := rfl
@[simp] theorem State.withY_p (s : State) (v : Byte) : (s.withY v).p = s.p := rfl
@[simp] theorem State.withY_pc (s : State) (v : Byte) : (s.withY v).pc = s.pc := rfl
@[simp] theorem State.withY_mem (s : State) (v : Byte) : (s.withY v).mem = s.mem := rfl
@[simp] theorem State.withY_irqLine (s : State) (v : Byte) : (s.withY v).irqLine = s.irqLine := rfl
@[simp] theorem State.withY_nmiPending (s : State) (v : Byte) : (s.withY v).nmiPending = s.nmiPending := rfl
@[simp] theorem State.withY_env (s : State) (v : Byte) : (s.withY v).env = s.env := rfl
@[simp] theorem State.withY_cfg (s : State) (v : Byte) : (s.withY v).cfg = s.cfg := rfl
@[simp] theorem State.withY_clk (s : State) (v : Byte) : (s.withY v).clk = s.clk := rfl
@[simp] theorem State.withY_freeCount (s : State) (v : Byte) : (s.withY v).freeCount = s.freeCount := rfl
@[simp] theorem State.withY_isIo (s : State) (v : Byte) (a : Word) : (s.withY v).isIo a = s.isIo a := rfl
@[simp] theorem State.withY_isWritable (s : State) (v : Byte) (a : Word) :
    (s.withY v).isWritable a = s.isWritable a := rfl
@[simp] theorem State.withY_byteAt (s : State) (v : Byte) (a : Word) :
    (s.withY v).byteAt a = s.byteAt a := rfl

/-! ### `withSp` -/

@[simp] theorem State.withSp_a (s : State) (v : Byte) : (s.withSp v).a = s.a := rfl
@[simp] theorem State.withSp_x (s : State) (v : Byte) : (s.withSp v).x = s.x := rfl
@[simp] theorem State.withSp_y (s : State) (v : Byte) : (s.withSp v).y = s.y := rfl
@[simp] theorem State.withSp_sp (s : State) (v : Byte) : (s.withSp v).sp = v := rfl
@[simp] theorem State.withSp_p (s : State) (v : Byte) : (s.withSp v).p = s.p := rfl
@[simp] theorem State.withSp_pc (s : State) (v : Byte) : (s.withSp v).pc = s.pc := rfl
@[simp] theorem State.withSp_mem (s : State) (v : Byte) : (s.withSp v).mem = s.mem := rfl
@[simp] theorem State.withSp_irqLine (s : State) (v : Byte) : (s.withSp v).irqLine = s.irqLine := rfl
@[simp] theorem State.withSp_nmiPending (s : State) (v : Byte) : (s.withSp v).nmiPending = s.nmiPending := rfl
@[simp] theorem State.withSp_env (s : State) (v : Byte) : (s.withSp v).env = s.env := rfl
@[simp] theorem State.withSp_cfg (s : State) (v : Byte) : (s.withSp v).cfg = s.cfg := rfl
@[simp] theorem State.withSp_clk (s : State) (v : Byte) : (s.withSp v).clk = s.clk := rfl
@[simp] theorem State.withSp_freeCount (s : State) (v : Byte) : (s.withSp v).freeCount = s.freeCount := rfl
@[simp] theorem State.withSp_isIo (s : State) (v : Byte) (a : Word) : (s.withSp v).isIo a = s.isIo a := rfl
@[simp] theorem State.withSp_isWritable (s : State) (v : Byte) (a : Word) :
    (s.withSp v).isWritable a = s.isWritable a := rfl
@[simp] theorem State.withSp_byteAt (s : State) (v : Byte) (a : Word) :
    (s.withSp v).byteAt a = s.byteAt a := rfl

/-! ### `withP` -/

@[simp] theorem State.withP_a (s : State) (v : Status) : (s.withP v).a = s.a := rfl
@[simp] theorem State.withP_x (s : State) (v : Status) : (s.withP v).x = s.x := rfl
@[simp] theorem State.withP_y (s : State) (v : Status) : (s.withP v).y = s.y := rfl
@[simp] theorem State.withP_sp (s : State) (v : Status) : (s.withP v).sp = s.sp := rfl
@[simp] theorem State.withP_p (s : State) (v : Status) : (s.withP v).p = v := rfl
@[simp] theorem State.withP_pc (s : State) (v : Status) : (s.withP v).pc = s.pc := rfl
@[simp] theorem State.withP_mem (s : State) (v : Status) : (s.withP v).mem = s.mem := rfl
@[simp] theorem State.withP_irqLine (s : State) (v : Status) : (s.withP v).irqLine = s.irqLine := rfl
@[simp] theorem State.withP_nmiPending (s : State) (v : Status) : (s.withP v).nmiPending = s.nmiPending := rfl
@[simp] theorem State.withP_env (s : State) (v : Status) : (s.withP v).env = s.env := rfl
@[simp] theorem State.withP_cfg (s : State) (v : Status) : (s.withP v).cfg = s.cfg := rfl
@[simp] theorem State.withP_clk (s : State) (v : Status) : (s.withP v).clk = s.clk := rfl
@[simp] theorem State.withP_freeCount (s : State) (v : Status) : (s.withP v).freeCount = s.freeCount := rfl
@[simp] theorem State.withP_isIo (s : State) (v : Status) (a : Word) : (s.withP v).isIo a = s.isIo a := rfl
@[simp] theorem State.withP_isWritable (s : State) (v : Status) (a : Word) :
    (s.withP v).isWritable a = s.isWritable a := rfl
@[simp] theorem State.withP_byteAt (s : State) (v : Status) (a : Word) :
    (s.withP v).byteAt a = s.byteAt a := rfl

/-! ### `withPc` -/

@[simp] theorem State.withPc_a (s : State) (v : Word) : (s.withPc v).a = s.a := rfl
@[simp] theorem State.withPc_x (s : State) (v : Word) : (s.withPc v).x = s.x := rfl
@[simp] theorem State.withPc_y (s : State) (v : Word) : (s.withPc v).y = s.y := rfl
@[simp] theorem State.withPc_sp (s : State) (v : Word) : (s.withPc v).sp = s.sp := rfl
@[simp] theorem State.withPc_p (s : State) (v : Word) : (s.withPc v).p = s.p := rfl
@[simp] theorem State.withPc_pc (s : State) (v : Word) : (s.withPc v).pc = v := rfl
@[simp] theorem State.withPc_mem (s : State) (v : Word) : (s.withPc v).mem = s.mem := rfl
@[simp] theorem State.withPc_irqLine (s : State) (v : Word) : (s.withPc v).irqLine = s.irqLine := rfl
@[simp] theorem State.withPc_nmiPending (s : State) (v : Word) : (s.withPc v).nmiPending = s.nmiPending := rfl
@[simp] theorem State.withPc_env (s : State) (v : Word) : (s.withPc v).env = s.env := rfl
@[simp] theorem State.withPc_cfg (s : State) (v : Word) : (s.withPc v).cfg = s.cfg := rfl
@[simp] theorem State.withPc_clk (s : State) (v : Word) : (s.withPc v).clk = s.clk := rfl
@[simp] theorem State.withPc_freeCount (s : State) (v : Word) : (s.withPc v).freeCount = s.freeCount := rfl
@[simp] theorem State.withPc_isIo (s : State) (v : Word) (a : Word) : (s.withPc v).isIo a = s.isIo a := rfl
@[simp] theorem State.withPc_isWritable (s : State) (v : Word) (a : Word) :
    (s.withPc v).isWritable a = s.isWritable a := rfl
@[simp] theorem State.withPc_byteAt (s : State) (v : Word) (a : Word) :
    (s.withPc v).byteAt a = s.byteAt a := rfl

/-! ### `withMem` -/

@[simp] theorem State.withMem_a (s : State) (v : Memory) : (s.withMem v).a = s.a := rfl
@[simp] theorem State.withMem_x (s : State) (v : Memory) : (s.withMem v).x = s.x := rfl
@[simp] theorem State.withMem_y (s : State) (v : Memory) : (s.withMem v).y = s.y := rfl
@[simp] theorem State.withMem_sp (s : State) (v : Memory) : (s.withMem v).sp = s.sp := rfl
@[simp] theorem State.withMem_p (s : State) (v : Memory) : (s.withMem v).p = s.p := rfl
@[simp] theorem State.withMem_pc (s : State) (v : Memory) : (s.withMem v).pc = s.pc := rfl
@[simp] theorem State.withMem_mem (s : State) (v : Memory) : (s.withMem v).mem = v := rfl
@[simp] theorem State.withMem_irqLine (s : State) (v : Memory) : (s.withMem v).irqLine = s.irqLine := rfl
@[simp] theorem State.withMem_nmiPending (s : State) (v : Memory) : (s.withMem v).nmiPending = s.nmiPending := rfl
@[simp] theorem State.withMem_env (s : State) (v : Memory) : (s.withMem v).env = s.env := rfl
@[simp] theorem State.withMem_cfg (s : State) (v : Memory) : (s.withMem v).cfg = s.cfg := rfl
@[simp] theorem State.withMem_clk (s : State) (v : Memory) : (s.withMem v).clk = s.clk := rfl
@[simp] theorem State.withMem_freeCount (s : State) (v : Memory) : (s.withMem v).freeCount = s.freeCount := rfl
@[simp] theorem State.withMem_isIo (s : State) (v : Memory) (a : Word) : (s.withMem v).isIo a = s.isIo a := rfl
@[simp] theorem State.withMem_isWritable (s : State) (v : Memory) (a : Word) :
    (s.withMem v).isWritable a = s.isWritable a := rfl

/-! ### `withClk` -/

@[simp] theorem State.withClk_a (s : State) (v : Nat) : (s.withClk v).a = s.a := rfl
@[simp] theorem State.withClk_x (s : State) (v : Nat) : (s.withClk v).x = s.x := rfl
@[simp] theorem State.withClk_y (s : State) (v : Nat) : (s.withClk v).y = s.y := rfl
@[simp] theorem State.withClk_sp (s : State) (v : Nat) : (s.withClk v).sp = s.sp := rfl
@[simp] theorem State.withClk_p (s : State) (v : Nat) : (s.withClk v).p = s.p := rfl
@[simp] theorem State.withClk_pc (s : State) (v : Nat) : (s.withClk v).pc = s.pc := rfl
@[simp] theorem State.withClk_mem (s : State) (v : Nat) : (s.withClk v).mem = s.mem := rfl
@[simp] theorem State.withClk_irqLine (s : State) (v : Nat) : (s.withClk v).irqLine = s.irqLine := rfl
@[simp] theorem State.withClk_nmiPending (s : State) (v : Nat) : (s.withClk v).nmiPending = s.nmiPending := rfl
@[simp] theorem State.withClk_env (s : State) (v : Nat) : (s.withClk v).env = s.env := rfl
@[simp] theorem State.withClk_cfg (s : State) (v : Nat) : (s.withClk v).cfg = s.cfg := rfl
@[simp] theorem State.withClk_clk (s : State) (v : Nat) : (s.withClk v).clk = v := rfl
@[simp] theorem State.withClk_freeCount (s : State) (v : Nat) : (s.withClk v).freeCount = s.freeCount := rfl
@[simp] theorem State.withClk_isIo (s : State) (v : Nat) (a : Word) : (s.withClk v).isIo a = s.isIo a := rfl
@[simp] theorem State.withClk_isWritable (s : State) (v : Nat) (a : Word) :
    (s.withClk v).isWritable a = s.isWritable a := rfl
@[simp] theorem State.withClk_byteAt (s : State) (v : Nat) (a : Word) :
    (s.withClk v).byteAt a = s.byteAt a := rfl

/-! ### `advance` -/

@[simp] theorem State.advance_a (s : State) (n : Nat) : (s.advance n).a = s.a := rfl
@[simp] theorem State.advance_x (s : State) (n : Nat) : (s.advance n).x = s.x := rfl
@[simp] theorem State.advance_y (s : State) (n : Nat) : (s.advance n).y = s.y := rfl
@[simp] theorem State.advance_sp (s : State) (n : Nat) : (s.advance n).sp = s.sp := rfl
@[simp] theorem State.advance_p (s : State) (n : Nat) : (s.advance n).p = s.p := rfl
@[simp] theorem State.advance_pc (s : State) (n : Nat) : (s.advance n).pc = s.pc + BitVec.ofNat 16 n := rfl
@[simp] theorem State.advance_mem (s : State) (n : Nat) : (s.advance n).mem = s.mem := rfl
@[simp] theorem State.advance_irqLine (s : State) (n : Nat) : (s.advance n).irqLine = s.irqLine := rfl
@[simp] theorem State.advance_nmiPending (s : State) (n : Nat) : (s.advance n).nmiPending = s.nmiPending := rfl
@[simp] theorem State.advance_env (s : State) (n : Nat) : (s.advance n).env = s.env := rfl
@[simp] theorem State.advance_cfg (s : State) (n : Nat) : (s.advance n).cfg = s.cfg := rfl
@[simp] theorem State.advance_clk (s : State) (n : Nat) : (s.advance n).clk = s.clk := rfl
@[simp] theorem State.advance_freeCount (s : State) (n : Nat) : (s.advance n).freeCount = s.freeCount := rfl
@[simp] theorem State.advance_byteAt (s : State) (n : Nat) (a : Word) : (s.advance n).byteAt a = s.byteAt a := rfl
@[simp] theorem State.advance_isIo (s : State) (n : Nat) (a : Word) : (s.advance n).isIo a = s.isIo a := rfl
@[simp] theorem State.advance_isWritable (s : State) (n : Nat) (a : Word) :
    (s.advance n).isWritable a = s.isWritable a := rfl

end Sys2Proof.Machine
end

