-- ==== Sys2Proof/Laws/Ops.lean ====
section
/-! SUPPORT. For each shared operation, once, everything it can do: "it answers this exactly when". -/

namespace Sys2Proof.Machine

/-! ### Results -/

/-- A sequence of two computations answers exactly when both do. -/
theorem bind_ok {α β : Type} {x : Result α} {f : α → Result β} {b : β} :
    (x >>= f) = .ok b ↔ ∃ a, x = .ok a ∧ f a = .ok b := by
  cases x <;> simp [bind, Except.bind]

@[simp] theorem ok_bind {α β : Type} (a : α) (f : α → Result β) : ((.ok a : Result α) >>= f) = f a := rfl

@[simp] theorem error_bind {α β : Type} (r : Refusal) (f : α → Result β) :
    ((.error r : Result α) >>= f) = .error r := rfl

@[simp] theorem pure_ok {α : Type} (a : α) : (pure a : Result α) = .ok a := rfl

@[simp] theorem throw_error {α : Type} (r : Refusal) : (throw r : Result α) = .error r := rfl

@[simp] theorem finish_ok (s : State) : finish (.ok s) = .next s := rfl

@[simp] theorem finish_error (r : Refusal) : finish (.error r) = .refused r := rfl

/-- A computed state is the outcome exactly when the computation answers it. -/
theorem finish_next {x : Result State} {t : State} : finish x = .next t ↔ x = .ok t := by
  cases x <;> simp [finish]

/-! ### Addresses -/

theorem toNat_lt (a : Word) : a.toNat < 65536 := a.isLt

theorem toNat_ne {a b : Word} (h : a ≠ b) : a.toNat ≠ b.toNat := fun e => h (BitVec.eq_of_toNat_eq e)

/-- A word as a number: its high byte counts 256. -/
theorem word_toNat (l h : Byte) : (word l h).toNat = h.toNat * 256 + l.toNat := by
  simp only [word, BitVec.toNat_append, ← Nat.shiftLeft_add_eq_or_of_lt l.isLt]; omega

/-- A zero-page address as a number is its byte. -/
theorem zext16_toNat (b : Byte) : (zext16 b).toNat = b.toNat := by simp [zext16, word_toNat]

/-- A word is made of its two bytes. -/
theorem word_loByte_hiByte (w : Word) : word (loByte w) (hiByte w) = w := by
  apply BitVec.eq_of_toNat_eq
  have := w.isLt
  simp only [word_toNat, loByte, hiByte, BitVec.toNat_setWidth, BitVec.toNat_ushiftRight, Nat.shiftRight_eq_div_pow]
  omega

/-- Places of the stack are equal only for equal stack pointers (R24). -/
theorem stackAddr_inj {p q : Byte} : stackAddr p = stackAddr q ↔ p = q := by
  constructor
  · intro h
    have e := congrArg BitVec.toNat h
    simp only [stackAddr, word, BitVec.toNat_append, ← Nat.shiftLeft_add_eq_or_of_lt p.isLt,
      ← Nat.shiftLeft_add_eq_or_of_lt q.isLt] at e
    exact BitVec.eq_of_toNat_eq (by omega)
  · rintro rfl; rfl

/-- The places of three pushes in a row are three. -/
theorem stackAddr_distinct (p : Byte) :
    stackAddr p ≠ stackAddr (p - 1) ∧ stackAddr p ≠ stackAddr (p - 1 - 1) ∧
      stackAddr (p - 1) ≠ stackAddr (p - 1 - 1) := by
  simp only [ne_eq, stackAddr_inj]
  revert p
  decide

theorem pushSlot_zero (s : State) : pushSlot s 0 = stackAddr s.sp := by simp [pushSlot]

theorem pushSlot_one (s : State) : pushSlot s 1 = stackAddr (s.sp - 1) := rfl

theorem pushSlot_two (s : State) : pushSlot s 2 = stackAddr (s.sp - 1 - 1) := by
  simp only [pushSlot, stackAddr_inj]; bv_omega

theorem pullSlot_one (s : State) : pullSlot s 1 = stackAddr (s.sp + 1) := rfl

theorem pullSlot_two (s : State) : pullSlot s 2 = stackAddr (s.sp + 1 + 1) := by
  simp only [pullSlot, stackAddr_inj]; bv_omega

theorem pullSlot_three (s : State) : pullSlot s 3 = stackAddr (s.sp + 1 + 1 + 1) := by
  simp only [pullSlot, stackAddr_inj]; bv_omega

/-! ### Reading a location after an update of memory -/

/-- What a location reads after a byte is written to memory. -/
theorem byteAt_withMem_write (s : State) (addr other : Word) (v : Byte) :
    (s.withMem (s.mem.write addr.toNat v)).byteAt other = if other = addr then v else s.byteAt other := by
  unfold State.byteAt
  by_cases h : other = addr
  · subst h; simp [Memory.read_write_self]
  · simp [Memory.read_write_other (toNat_ne h), h]

/-! ### `load` and `store` (R56, R57) -/

/-- A read answers exactly when no device is there, and then what the location holds. -/
theorem load_ok {addr : Word} {s : State} {v : Byte} :
    load addr s = .ok v ↔ s.isIo addr = false ∧ v = s.byteAt addr := by
  unfold load
  cases s.isIo addr <;> simp [@eq_comm _ v]

/-- The read of an address that is no device's. -/
theorem load_eq {addr : Word} {s : State} (h : s.isIo addr = false) : load addr s = .ok (s.byteAt addr) :=
  load_ok.2 ⟨h, rfl⟩

/-- A write answers exactly when no device is there, and then changes memory only, and that only where writable. -/
theorem store_ok {addr : Word} {v : Byte} {s t : State} :
    store addr v s = .ok t ↔ s.isIo addr = false ∧
      t = if s.isWritable addr then s.withMem (s.mem.write addr.toNat v) else s := by
  unfold store
  cases s.isIo addr <;> simp [@eq_comm _ t]

/-- A write at an address that is no device's changes one location at most, and no field but the memory. -/
theorem store_spec {addr : Word} (v : Byte) {s : State} (h : s.isIo addr = false) :
    ∃ m, store addr v s = .ok (s.withMem m) ∧
      (∀ a, (s.withMem m).byteAt a = if a = addr then storedByte s addr v else s.byteAt a) ∧
      (s.mem.wf = true → m.wf = true) := by
  cases hw : s.isWritable addr with
  | true =>
    refine ⟨s.mem.write addr.toNat v, by simp [store_ok, h, hw], fun a => ?_,
      fun hm => Memory.wf_write v (toNat_lt addr) hm⟩
    simp [byteAt_withMem_write, storedByte, hw]
  | false =>
    refine ⟨s.mem, by simp [store_ok, h, hw]; rfl, fun a => ?_, id⟩
    have : (s.withMem s.mem).byteAt a = s.byteAt a := rfl
    rw [this]
    by_cases ha : a = addr <;> simp [storedByte, hw, ha]

/-! ### The stack (R180, R181) -/

/-- A push answers exactly when its store does; SP moves down by one. -/
theorem push_ok {v : Byte} {s t : State} :
    push v s = .ok t ↔ ∃ u, store (stackAddr s.sp) v s = .ok u ∧ t = u.withSp (s.sp - 1) := by
  unfold push
  simp [bind_ok, @eq_comm _ t]

/-- A push at a place that is no device's: SP moves down, one location changes at most, nothing else. -/
theorem push_spec (v : Byte) {s : State} (h : s.isIo (stackAddr s.sp) = false) :
    ∃ m, push v s = .ok ((s.withMem m).withSp (s.sp - 1)) ∧
      (∀ a, (s.withMem m).byteAt a =
        if a = stackAddr s.sp then storedByte s (stackAddr s.sp) v else s.byteAt a) ∧
      (s.mem.wf = true → m.wf = true) := by
  obtain ⟨m, hs, hb, hm⟩ := store_spec v h
  exact ⟨m, push_ok.2 ⟨_, hs, rfl⟩, hb, hm⟩

/-- A pull answers exactly when no device is at the place above SP: SP moves up, the place is read. -/
theorem pull_ok {s t : State} {v : Byte} :
    pull s = .ok (v, t) ↔
      s.isIo (stackAddr (s.sp + 1)) = false ∧ v = s.byteAt (stackAddr (s.sp + 1)) ∧ t = s.withSp (s.sp + 1) := by
  unfold pull
  simp only [bind_ok, pure_ok, Except.ok.injEq, Prod.mk.injEq, load_ok, State.withSp_sp, State.withSp_isIo,
    State.withSp_byteAt]
  constructor
  · rintro ⟨w, ⟨h1, rfl⟩, rfl, rfl⟩; exact ⟨h1, rfl, rfl⟩
  · rintro ⟨h1, rfl, rfl⟩; exact ⟨_, ⟨h1, rfl⟩, rfl, rfl⟩

/-- A pull from a place that is no device's. -/
theorem pull_eq {s : State} (h : s.isIo (stackAddr (s.sp + 1)) = false) :
    pull s = .ok (s.byteAt (stackAddr (s.sp + 1)), s.withSp (s.sp + 1)) :=
  pull_ok.2 ⟨h, rfl, rfl⟩

/-- Pushing a word answers exactly when both pushes do, the high byte first. -/
theorem pushWord_ok {w : Word} {s t : State} :
    pushWord w s = .ok t ↔ ∃ u, push (hiByte w) s = .ok u ∧ push (loByte w) u = .ok t := by
  unfold pushWord
  exact bind_ok

/-- Pulling a word answers exactly when both pulls do, the low byte first. -/
theorem pullWord_ok {w : Word} {s t : State} :
    pullWord s = .ok (w, t) ↔ ∃ l h u, pull s = .ok (l, u) ∧ pull u = .ok (h, t) ∧ w = word l h := by
  unfold pullWord
  simp only [bind_ok, pure_ok, Except.ok.injEq, Prod.mk.injEq]
  constructor
  · rintro ⟨⟨l, u⟩, h1, ⟨h, v⟩, h2, rfl, rfl⟩; exact ⟨l, h, u, h1, h2, rfl⟩
  · rintro ⟨l, h, u, h1, h2, rfl⟩; exact ⟨⟨l, u⟩, h1, ⟨h, t⟩, h2, rfl, rfl⟩

/-! ### Vectors and exceptions (R53, R223) -/

/-- Reading a 16-bit value answers exactly when neither byte is a device's. -/
theorem load16_ok {addr : Word} {s : State} {w : Word} :
    load16 addr s = .ok w ↔ s.isIo addr = false ∧ s.isIo (addr + 1) = false ∧
      w = word (s.byteAt addr) (s.byteAt (addr + 1)) := by
  unfold load16
  simp only [bind_ok, pure_ok, Except.ok.injEq, load_ok]
  constructor
  · rintro ⟨l, ⟨h1, rfl⟩, h, ⟨h2, rfl⟩, rfl⟩; exact ⟨h1, h2, rfl⟩
  · rintro ⟨h1, h2, rfl⟩; exact ⟨_, ⟨h1, rfl⟩, _, ⟨h2, rfl⟩, rfl⟩

/-- Entering a handler answers exactly when the three pushes and the two vector reads do. -/
theorem enterHandler_ok {ret : Word} {status : Byte} {vector : Word} {s t : State} :
    enterHandler ret status vector s = .ok t ↔
      ∃ u w handler, pushWord ret s = .ok u ∧ push status u = .ok w ∧
        load16 vector (w.withP { w.p with i := true }) = .ok handler ∧
        t = (w.withP { w.p with i := true }).withPc handler := by
  unfold enterHandler
  simp only [bind_ok, pure_ok, Except.ok.injEq]
  constructor
  · rintro ⟨u, h1, w, h2, handler, h3, rfl⟩; exact ⟨u, w, handler, h1, h2, h3, rfl⟩
  · rintro ⟨u, w, handler, h1, h2, h3, rfl⟩; exact ⟨u, h1, w, h2, handler, h3, rfl⟩

/-- Three pushes at places that are no device's: SP moves down by three, the three places receive their bytes where
they are writable, no other location and no other field changes. -/
theorem pushThree_spec (w : Word) (v : Byte) {s : State}
    (hio : accessible s [pushSlot s 0, pushSlot s 1, pushSlot s 2]) :
    ∃ m, (pushWord w s >>= push v) = .ok ((s.withMem m).withSp (s.sp - 3)) ∧
      (s.withMem m).byteAt (pushSlot s 0) = storedByte s (pushSlot s 0) (hiByte w) ∧
      (s.withMem m).byteAt (pushSlot s 1) = storedByte s (pushSlot s 1) (loByte w) ∧
      (s.withMem m).byteAt (pushSlot s 2) = storedByte s (pushSlot s 2) v ∧
      sameMemoryOutside [pushSlot s 0, pushSlot s 1, pushSlot s 2] s (s.withMem m) ∧
      (s.mem.wf = true → m.wf = true) := by
  rw [pushSlot_zero, pushSlot_one, pushSlot_two] at hio ⊢
  have a0 := hio (stackAddr s.sp) (by simp)
  have a1 := hio (stackAddr (s.sp - 1)) (by simp)
  have a2 := hio (stackAddr (s.sp - 1 - 1)) (by simp)
  obtain ⟨n1, n2, n3⟩ := stackAddr_distinct s.sp
  obtain ⟨m1, p1, b1, w1⟩ := push_spec (hiByte w) a0
  obtain ⟨m2, p2, b2, w2⟩ := push_spec (loByte w) (s := (s.withMem m1).withSp (s.sp - 1)) a1
  obtain ⟨m3, p3, b3, w3⟩ := push_spec v (s := (s.withMem m2).withSp (s.sp - 1 - 1)) a2
  have B2 : ∀ a, (s.withMem m2).byteAt a = if a = stackAddr (s.sp - 1)
      then storedByte (s.withMem m1) (stackAddr (s.sp - 1)) (loByte w) else (s.withMem m1).byteAt a := b2
  have B3 : ∀ a, (s.withMem m3).byteAt a = if a = stackAddr (s.sp - 1 - 1)
      then storedByte (s.withMem m2) (stackAddr (s.sp - 1 - 1)) v else (s.withMem m2).byteAt a := b3
  refine ⟨m3, ?_, ?_, ?_, ?_, fun a ha => ?_, fun h => w3 (w2 (w1 h))⟩
  · rw [pushWord_ok.2 ⟨_, p1, p2⟩, show s.sp - 3 = s.sp - 1 - 1 - 1 by bv_omega]
    exact p3
  · rw [B3, if_neg n2, B2, if_neg n1, b1, if_pos rfl]
  · rw [B3, if_neg n3, B2, if_pos rfl]
    simp only [storedByte]
    rw [b1, if_neg n1.symm]
    rfl
  · rw [B3, if_pos rfl]
    simp only [storedByte]
    rw [B2, if_neg n3.symm, b1, if_neg n2.symm]
    rfl
  · simp only [List.mem_cons, List.not_mem_nil, or_false, not_or] at ha
    rw [B3, if_neg ha.2.2, B2, if_neg ha.2.1, b1, if_neg ha.1]

/-- A location above the stack page is no place of the stack. -/
theorem notMem_pushSlots {s : State} {a : Word} (h : 512 ≤ a.toNat) :
    a ∉ [pushSlot s 0, pushSlot s 1, pushSlot s 2] := by
  have low : ∀ p : Byte, (stackAddr p).toNat < 512 := by decide
  have ne : ∀ k, a ≠ pushSlot s k := fun k e => by
    have := low (s.sp - BitVec.ofNat 8 k)
    rw [e] at h
    exact absurd h (by unfold pushSlot; omega)
  simp [ne]

/-- Everything the entry sequence does when no device is at its five addresses and its vector lies above the stack
page: SP, I, PC and the three places of the stack, nothing else. -/
theorem enterHandler_spec (ret : Word) (status : Byte) {vector : Word} {s : State}
    (hio : accessible s [pushSlot s 0, pushSlot s 1, pushSlot s 2, vector, vector + 1])
    (hv : 512 ≤ vector.toNat) (hv' : 512 ≤ (vector + 1).toNat) :
    ∃ m, enterHandler ret status vector s = .ok { s with
        sp := s.sp - 3, p := { s.p with i := true }, pc := word (s.byteAt vector) (s.byteAt (vector + 1)), mem := m } ∧
      (s.withMem m).byteAt (pushSlot s 0) = storedByte s (pushSlot s 0) (hiByte ret) ∧
      (s.withMem m).byteAt (pushSlot s 1) = storedByte s (pushSlot s 1) (loByte ret) ∧
      (s.withMem m).byteAt (pushSlot s 2) = storedByte s (pushSlot s 2) status ∧
      sameMemoryOutside [pushSlot s 0, pushSlot s 1, pushSlot s 2] s (s.withMem m) ∧
      (s.mem.wf = true → m.wf = true) := by
  obtain ⟨m, hp, b0, b1, b2, bo, hw⟩ := pushThree_spec ret status (s := s) (fun a ha => hio a (by
    simp only [List.mem_cons, List.not_mem_nil, or_false] at ha ⊢
    rcases ha with h | h | h <;> simp [h]))
  obtain ⟨u, hu, hu2⟩ := bind_ok.1 hp
  have e1 := bo vector (notMem_pushSlots hv)
  have e2 := bo (vector + 1) (notMem_pushSlots hv')
  refine ⟨m, enterHandler_ok.2 ⟨u, _, _, hu, hu2, load16_ok.2 ⟨?_, ?_, rfl⟩, ?_⟩, b0, b1, b2, bo, hw⟩
  · exact hio vector (by simp)
  · exact hio (vector + 1) (by simp)
  · rw [State.withP_byteAt, State.withSp_byteAt, e1, State.withP_byteAt, State.withSp_byteAt, e2]
    rfl

/-- Returning from a handler answers exactly when the three pulls do. -/
theorem returnFromHandler_ok {s t : State} :
    returnFromHandler s = .ok t ↔ ∃ v u target w, pull s = .ok (v, u) ∧
      pullWord (u.withP (pulledStatus u.cfg.bModel u.p v)) = .ok (target, w) ∧ t = w.withPc target := by
  unfold returnFromHandler
  simp only [bind_ok, pure_ok, Except.ok.injEq]
  constructor
  · rintro ⟨⟨v, u⟩, h1, ⟨target, w⟩, h2, rfl⟩; exact ⟨v, u, target, w, h1, h2, rfl⟩
  · rintro ⟨v, u, target, w, h1, h2, rfl⟩; exact ⟨⟨v, u⟩, h1, ⟨target, w⟩, h2, rfl⟩

/-! ### Operands (R100 to R113) -/

/-- A zero-page pointer is read exactly when neither of its bytes is a device's. -/
theorem zeroPagePointer_ok {z : Byte} {s : State} {w : Word} :
    zeroPagePointer z s = .ok w ↔ s.isIo (zext16 z) = false ∧ s.isIo (zext16 (z + 1)) = false ∧
      w = word (s.byteAt (zext16 z)) (s.byteAt (zext16 (z + 1))) := by
  unfold zeroPagePointer
  simp only [bind_ok, pure_ok, Except.ok.injEq, load_ok]
  constructor
  · rintro ⟨l, ⟨h1, rfl⟩, h, ⟨h2, rfl⟩, rfl⟩; exact ⟨h1, h2, rfl⟩
  · rintro ⟨h1, h2, rfl⟩; exact ⟨_, ⟨h1, rfl⟩, _, ⟨h2, rfl⟩, rfl⟩

/-- The byte of a memory format is read exactly when its address is formed and is no device's. -/
theorem memoryByte_ok {m : MemMode} {s : State} {v : Byte} :
    memoryByte m s = .ok v ↔ ∃ addr, effectiveAddress m s = .ok addr ∧ s.isIo addr = false ∧ v = s.byteAt addr := by
  unfold memoryByte
  simp [bind_ok, load_ok]

/-- The target of an indirect jump is read exactly when neither pointer byte is a device's. -/
theorem indirectTarget_ok {lo8 hi8 : Byte} {s : State} {w : Word} :
    indirectTarget lo8 hi8 s = .ok w ↔ s.isIo (word lo8 hi8) = false ∧
      s.isIo (pointerHighAddr s.cfg.jmpIndPageWrap lo8 hi8) = false ∧
      w = word (s.byteAt (word lo8 hi8)) (s.byteAt (pointerHighAddr s.cfg.jmpIndPageWrap lo8 hi8)) := by
  unfold indirectTarget
  simp only [bind_ok, pure_ok, Except.ok.injEq, load_ok]
  constructor
  · rintro ⟨l, ⟨h1, rfl⟩, h, ⟨h2, rfl⟩, rfl⟩; exact ⟨h1, h2, rfl⟩
  · rintro ⟨h1, h2, rfl⟩; exact ⟨_, ⟨h1, rfl⟩, _, ⟨h2, rfl⟩, rfl⟩

end Sys2Proof.Machine
end

