-- ==== Sys2Proof/Laws/Exec.lean ====
section
/-! SUPPORT. `exec` as a function of mnemonic and operand form: 151 arms become 56 shared meanings, once. -/

namespace Sys2Proof.Machine

/-- The shared meaning that a mnemonic has on an operand form. -/
def meaning : Mnemonic → Operand → State → Result State
  | .lda, .immediate v, s => loadA (.immediate v) s
  | .lda, .memory m, s => loadA (.memory m) s
  | .sta, .memory m, s => storeA m s
  | .adc, .immediate v, s => addWithCarry (.immediate v) s
  | .adc, .memory m, s => addWithCarry (.memory m) s
  | .sbc, .immediate v, s => subtractWithBorrow (.immediate v) s
  | .sbc, .memory m, s => subtractWithBorrow (.memory m) s
  | .and, .immediate v, s => andA (.immediate v) s
  | .and, .memory m, s => andA (.memory m) s
  | .ora, .immediate v, s => orA (.immediate v) s
  | .ora, .memory m, s => orA (.memory m) s
  | .eor, .immediate v, s => eorA (.immediate v) s
  | .eor, .memory m, s => eorA (.memory m) s
  | .sec, _, s => setCarry s
  | .clc, _, s => clearCarry s
  | .sei, _, s => setInterruptDisable s
  | .cli, _, s => clearInterruptDisable s
  | .sed, _, s => setDecimal s
  | .cld, _, s => clearDecimal s
  | .clv, _, s => clearOverflow s
  | .bmi, .relative r, s => branchMinus r s
  | .bpl, .relative r, s => branchPlus r s
  | .bcc, .relative r, s => branchCarryClear r s
  | .bcs, .relative r, s => branchCarrySet r s
  | .beq, .relative r, s => branchZero r s
  | .bne, .relative r, s => branchNotZero r s
  | .bvs, .relative r, s => branchOverflowSet r s
  | .bvc, .relative r, s => branchOverflowClear r s
  | .jmp, .memory (.absolute lo hi), s => jump lo hi s
  | .jmp, .indirect lo hi, s => jumpIndirect lo hi s
  | .cmp, .immediate v, s => compareA (.immediate v) s
  | .cmp, .memory m, s => compareA (.memory m) s
  | .bit, .memory m, s => bitTest (.memory m) s
  | .ldx, .immediate v, s => loadX (.immediate v) s
  | .ldx, .memory m, s => loadX (.memory m) s
  | .ldy, .immediate v, s => loadY (.immediate v) s
  | .ldy, .memory m, s => loadY (.memory m) s
  | .stx, .memory m, s => storeX m s
  | .sty, .memory m, s => storeY m s
  | .inx, _, s => incrementX s
  | .iny, _, s => incrementY s
  | .dex, _, s => decrementX s
  | .dey, _, s => decrementY s
  | .cpx, .immediate v, s => compareX (.immediate v) s
  | .cpx, .memory m, s => compareX (.memory m) s
  | .cpy, .immediate v, s => compareY (.immediate v) s
  | .cpy, .memory m, s => compareY (.memory m) s
  | .tax, _, s => transferAToX s
  | .txa, _, s => transferXToA s
  | .tay, _, s => transferAToY s
  | .tya, _, s => transferYToA s
  | .jsr, .memory (.absolute lo hi), s => jumpSubroutine lo hi s
  | .rts, _, s => returnSubroutine s
  | .pha, _, s => pushA s
  | .pla, _, s => pullA s
  | .txs, _, s => transferXToSp s
  | .tsx, _, s => transferSpToX s
  | .php, _, s => pushStatus s
  | .plp, _, s => pullStatus s
  | .brk, _, s => forceBreak s
  | .rti, _, s => returnInterrupt s
  | .nop, _, s => noOperation s
  | .lsr, .accumulator, s => logicalShiftRight .accumulator s
  | .lsr, .memory m, s => logicalShiftRight (.memory m) s
  | .asl, .accumulator, s => arithmeticShiftLeft .accumulator s
  | .asl, .memory m, s => arithmeticShiftLeft (.memory m) s
  | .rol, .accumulator, s => rotateLeftThroughCarry .accumulator s
  | .rol, .memory m, s => rotateLeftThroughCarry (.memory m) s
  | .ror, .accumulator, s => rotateRightThroughCarry .accumulator s
  | .ror, .memory m, s => rotateRightThroughCarry (.memory m) s
  | .inc, .memory m, s => incrementMemory m s
  | .dec, .memory m, s => decrementMemory m s
  | _, _, s => .ok s

/-- An instruction does what its mnemonic does on its operand form. -/
theorem exec_eq_meaning (i : Instr) (s : State) : exec i s = finish (meaning i.mnemonic i.operand s) := by
  cases i <;> rfl

/-! ### By mnemonic: every form at once -/

theorem exec_lda {i : Instr} {src : Source} {s : State} (hm : i.mnemonic = .lda) (ho : i.operand = src.operand) :
    exec i s = finish (loadA src s) := by
  rw [exec_eq_meaning, hm, ho]; cases src <;> rfl

theorem exec_adc {i : Instr} {src : Source} {s : State} (hm : i.mnemonic = .adc) (ho : i.operand = src.operand) :
    exec i s = finish (addWithCarry src s) := by
  rw [exec_eq_meaning, hm, ho]; cases src <;> rfl

theorem exec_sbc {i : Instr} {src : Source} {s : State} (hm : i.mnemonic = .sbc) (ho : i.operand = src.operand) :
    exec i s = finish (subtractWithBorrow src s) := by
  rw [exec_eq_meaning, hm, ho]; cases src <;> rfl

theorem exec_and {i : Instr} {src : Source} {s : State} (hm : i.mnemonic = .and) (ho : i.operand = src.operand) :
    exec i s = finish (andA src s) := by
  rw [exec_eq_meaning, hm, ho]; cases src <;> rfl

theorem exec_ora {i : Instr} {src : Source} {s : State} (hm : i.mnemonic = .ora) (ho : i.operand = src.operand) :
    exec i s = finish (orA src s) := by
  rw [exec_eq_meaning, hm, ho]; cases src <;> rfl

theorem exec_eor {i : Instr} {src : Source} {s : State} (hm : i.mnemonic = .eor) (ho : i.operand = src.operand) :
    exec i s = finish (eorA src s) := by
  rw [exec_eq_meaning, hm, ho]; cases src <;> rfl

theorem exec_cmp {i : Instr} {src : Source} {s : State} (hm : i.mnemonic = .cmp) (ho : i.operand = src.operand) :
    exec i s = finish (compareA src s) := by
  rw [exec_eq_meaning, hm, ho]; cases src <;> rfl

theorem exec_ldx {i : Instr} {src : Source} {s : State} (hm : i.mnemonic = .ldx) (ho : i.operand = src.operand) :
    exec i s = finish (loadX src s) := by
  rw [exec_eq_meaning, hm, ho]; cases src <;> rfl

theorem exec_ldy {i : Instr} {src : Source} {s : State} (hm : i.mnemonic = .ldy) (ho : i.operand = src.operand) :
    exec i s = finish (loadY src s) := by
  rw [exec_eq_meaning, hm, ho]; cases src <;> rfl

theorem exec_cpx {i : Instr} {src : Source} {s : State} (hm : i.mnemonic = .cpx) (ho : i.operand = src.operand) :
    exec i s = finish (compareX src s) := by
  rw [exec_eq_meaning, hm, ho]; cases src <;> rfl

theorem exec_cpy {i : Instr} {src : Source} {s : State} (hm : i.mnemonic = .cpy) (ho : i.operand = src.operand) :
    exec i s = finish (compareY src s) := by
  rw [exec_eq_meaning, hm, ho]; cases src <;> rfl

theorem exec_sta {i : Instr} {m : MemMode} {s : State} (hm : i.mnemonic = .sta) (ho : i.operand = .memory m) :
    exec i s = finish (storeA m s) := by
  rw [exec_eq_meaning, hm, ho]; rfl

theorem exec_stx {i : Instr} {m : MemMode} {s : State} (hm : i.mnemonic = .stx) (ho : i.operand = .memory m) :
    exec i s = finish (storeX m s) := by
  rw [exec_eq_meaning, hm, ho]; rfl

theorem exec_sty {i : Instr} {m : MemMode} {s : State} (hm : i.mnemonic = .sty) (ho : i.operand = .memory m) :
    exec i s = finish (storeY m s) := by
  rw [exec_eq_meaning, hm, ho]; rfl

theorem exec_inc {i : Instr} {m : MemMode} {s : State} (hm : i.mnemonic = .inc) (ho : i.operand = .memory m) :
    exec i s = finish (incrementMemory m s) := by
  rw [exec_eq_meaning, hm, ho]; rfl

theorem exec_dec {i : Instr} {m : MemMode} {s : State} (hm : i.mnemonic = .dec) (ho : i.operand = .memory m) :
    exec i s = finish (decrementMemory m s) := by
  rw [exec_eq_meaning, hm, ho]; rfl

theorem exec_bit {i : Instr} {m : MemMode} {s : State} (hm : i.mnemonic = .bit) (ho : i.operand = .memory m) :
    exec i s = finish (bitTest (.memory m) s) := by
  rw [exec_eq_meaning, hm, ho]; rfl

theorem exec_lsr {i : Instr} {target : Target} {s : State} (hm : i.mnemonic = .lsr)
    (ho : i.operand = target.operand) : exec i s = finish (logicalShiftRight target s) := by
  rw [exec_eq_meaning, hm, ho]; cases target <;> rfl

theorem exec_asl {i : Instr} {target : Target} {s : State} (hm : i.mnemonic = .asl)
    (ho : i.operand = target.operand) : exec i s = finish (arithmeticShiftLeft target s) := by
  rw [exec_eq_meaning, hm, ho]; cases target <;> rfl

theorem exec_rol {i : Instr} {target : Target} {s : State} (hm : i.mnemonic = .rol)
    (ho : i.operand = target.operand) : exec i s = finish (rotateLeftThroughCarry target s) := by
  rw [exec_eq_meaning, hm, ho]; cases target <;> rfl

theorem exec_ror {i : Instr} {target : Target} {s : State} (hm : i.mnemonic = .ror)
    (ho : i.operand = target.operand) : exec i s = finish (rotateRightThroughCarry target s) := by
  rw [exec_eq_meaning, hm, ho]; cases target <;> rfl

end Sys2Proof.Machine
end

