-- ==== Sys2Proof/Laws/Meanings.lean ====
section
/-! SUPPORT. For each shared meaning, once, exactly when it answers a state and which. -/

namespace Sys2Proof.Machine

/-! ### Reading meanings -/

theorem loadA_ok {src : Source} {s t : State} : loadA src s = .ok t ↔
    ∃ v, operandByte src s = .ok v ∧ t = ((s.withP (setNZ s.p v)).withA v).advance src.operand.length := by
  unfold loadA; simp [bind_ok, @eq_comm _ t]

theorem loadX_ok {src : Source} {s t : State} : loadX src s = .ok t ↔
    ∃ v, operandByte src s = .ok v ∧ t = ((s.withP (setNZ s.p v)).withX v).advance src.operand.length := by
  unfold loadX; simp [bind_ok, @eq_comm _ t]

theorem loadY_ok {src : Source} {s t : State} : loadY src s = .ok t ↔
    ∃ v, operandByte src s = .ok v ∧ t = ((s.withP (setNZ s.p v)).withY v).advance src.operand.length := by
  unfold loadY; simp [bind_ok, @eq_comm _ t]

theorem arithmetic_ok {result : State → Byte → Sum} {src : Source} {s t : State} : arithmetic result src s = .ok t ↔
    ∃ m, operandByte src s = .ok m ∧ refusesBcd s m = false ∧
      t = ((s.withP (setSum s.p (result s m))).withA (result s m).value).advance src.operand.length := by
  unfold arithmetic
  simp only [bind_ok]
  refine exists_congr fun m => and_congr_right fun _ => ?_
  cases refusesBcd s m <;> simp [@eq_comm _ t]

theorem logical_ok {combine : Byte → Byte → Byte} {src : Source} {s t : State} : logical combine src s = .ok t ↔
    ∃ m, operandByte src s = .ok m ∧
      t = ((s.withP (setNZ s.p (combine s.a m))).withA (combine s.a m)).advance src.operand.length := by
  unfold logical; simp [bind_ok, @eq_comm _ t]

theorem compareRegister_ok {r : Byte} {src : Source} {s t : State} : compareRegister r src s = .ok t ↔
    ∃ m, operandByte src s = .ok m ∧ t = (s.withP (compareFlags s.p r m)).advance src.operand.length := by
  unfold compareRegister; simp [bind_ok, @eq_comm _ t]

theorem bitTest_ok {src : Source} {s t : State} : bitTest src s = .ok t ↔
    ∃ m, operandByte src s = .ok m ∧ t = (s.withP (bitFlags s.p s.a m)).advance src.operand.length := by
  unfold bitTest; simp [bind_ok, @eq_comm _ t]

theorem jumpIndirect_ok {lo8 hi8 : Byte} {s t : State} : jumpIndirect lo8 hi8 s = .ok t ↔
    ∃ target, indirectTarget lo8 hi8 s = .ok target ∧ t = s.withPc target := by
  unfold jumpIndirect; simp [bind_ok, @eq_comm _ t]

/-! ### Writing meanings -/

theorem storeA_ok {m : MemMode} {s t : State} : storeA m s = .ok t ↔
    ∃ addr u, effectiveAddress m s = .ok addr ∧ store addr s.a s = .ok u ∧ t = u.advance m.length := by
  unfold storeA; simp [bind_ok, @eq_comm _ t]

theorem storeX_ok {m : MemMode} {s t : State} : storeX m s = .ok t ↔
    ∃ addr u, effectiveAddress m s = .ok addr ∧ store addr s.x s = .ok u ∧ t = u.advance m.length := by
  unfold storeX; simp [bind_ok, @eq_comm _ t]

theorem storeY_ok {m : MemMode} {s t : State} : storeY m s = .ok t ↔
    ∃ addr u, effectiveAddress m s = .ok addr ∧ store addr s.y s = .ok u ∧ t = u.advance m.length := by
  unfold storeY; simp [bind_ok, @eq_comm _ t]

theorem modifyMemory_ok {f : Byte → Bool → Shifted} {m : MemMode} {s t : State} : modifyMemory f m s = .ok t ↔
    ∃ addr v u, effectiveAddress m s = .ok addr ∧ load addr s = .ok v ∧
      store addr (f v s.p.c).value (s.withP (setNZC s.p (f v s.p.c).value (f v s.p.c).carry)) = .ok u ∧
      t = u.advance m.length := by
  unfold modifyMemory; simp [bind_ok, @eq_comm _ t]

/-! ### The stack -/

theorem jumpSubroutine_ok {lo8 hi8 : Byte} {s t : State} : jumpSubroutine lo8 hi8 s = .ok t ↔
    ∃ u, pushWord (s.pc + 2) s = .ok u ∧ t = u.withPc (word lo8 hi8) := by
  unfold jumpSubroutine; simp [bind_ok, @eq_comm _ t]

theorem returnSubroutine_ok {s t : State} : returnSubroutine s = .ok t ↔
    ∃ target u, pullWord s = .ok (target, u) ∧ t = u.withPc (target + 1) := by
  unfold returnSubroutine; simp [bind_ok, @eq_comm _ t]

theorem pushA_ok {s t : State} : pushA s = .ok t ↔ ∃ u, push s.a s = .ok u ∧ t = u.advance 1 := by
  unfold pushA; simp [bind_ok, @eq_comm _ t]

theorem pushStatus_ok {s t : State} : pushStatus s = .ok t ↔
    ∃ u, push (pushedStatus s.cfg.bModel s.p) s = .ok u ∧ t = u.advance 1 := by
  unfold pushStatus; simp [bind_ok, @eq_comm _ t]

theorem pullA_ok {s t : State} : pullA s = .ok t ↔
    ∃ v u, pull s = .ok (v, u) ∧ t = ((u.withP (setNZ u.p v)).withA v).advance 1 := by
  unfold pullA; simp [bind_ok, @eq_comm _ t]

theorem pullStatus_ok {s t : State} : pullStatus s = .ok t ↔
    ∃ v u, pull s = .ok (v, u) ∧ t = (u.withP (pulledStatus u.cfg.bModel u.p v)).advance 1 := by
  unfold pullStatus; simp [bind_ok, @eq_comm _ t]

end Sys2Proof.Machine
end

