-- ==== Sys2Proof/Laws/PerInstr.lean ====
section
/-! SUPPORT. The laws that are stated of each instruction as syntax: decoding its encoding gives it back. -/

namespace Sys2Proof.Laws

/-- Decoding the bytes of an instruction, whatever follows them, gives the instruction and what follows. -/
def RoundTrip.Statement (i : Instr) : Prop :=
  ∀ rest : List Byte, decode (encode i ++ rest) = .instr i rest

theorem RoundTrip.ldaImm (imm8 : Byte) : RoundTrip.Statement (.ldaImm imm8) := fun _ => rfl
theorem RoundTrip.ldaZp (zp8 : Byte) : RoundTrip.Statement (.ldaZp zp8) := fun _ => rfl
theorem RoundTrip.ldaZpX (zp8 : Byte) : RoundTrip.Statement (.ldaZpX zp8) := fun _ => rfl
theorem RoundTrip.ldaAbs (lo8 hi8 : Byte) : RoundTrip.Statement (.ldaAbs lo8 hi8) := fun _ => rfl
theorem RoundTrip.ldaAbsX (lo8 hi8 : Byte) : RoundTrip.Statement (.ldaAbsX lo8 hi8) := fun _ => rfl
theorem RoundTrip.ldaAbsY (lo8 hi8 : Byte) : RoundTrip.Statement (.ldaAbsY lo8 hi8) := fun _ => rfl
theorem RoundTrip.ldaIndX (zp8 : Byte) : RoundTrip.Statement (.ldaIndX zp8) := fun _ => rfl
theorem RoundTrip.ldaIndY (zp8 : Byte) : RoundTrip.Statement (.ldaIndY zp8) := fun _ => rfl
theorem RoundTrip.staZp (zp8 : Byte) : RoundTrip.Statement (.staZp zp8) := fun _ => rfl
theorem RoundTrip.staZpX (zp8 : Byte) : RoundTrip.Statement (.staZpX zp8) := fun _ => rfl
theorem RoundTrip.staAbs (lo8 hi8 : Byte) : RoundTrip.Statement (.staAbs lo8 hi8) := fun _ => rfl
theorem RoundTrip.staAbsX (lo8 hi8 : Byte) : RoundTrip.Statement (.staAbsX lo8 hi8) := fun _ => rfl
theorem RoundTrip.staAbsY (lo8 hi8 : Byte) : RoundTrip.Statement (.staAbsY lo8 hi8) := fun _ => rfl
theorem RoundTrip.staIndX (zp8 : Byte) : RoundTrip.Statement (.staIndX zp8) := fun _ => rfl
theorem RoundTrip.staIndY (zp8 : Byte) : RoundTrip.Statement (.staIndY zp8) := fun _ => rfl
theorem RoundTrip.adcImm (imm8 : Byte) : RoundTrip.Statement (.adcImm imm8) := fun _ => rfl
theorem RoundTrip.adcZp (zp8 : Byte) : RoundTrip.Statement (.adcZp zp8) := fun _ => rfl
theorem RoundTrip.adcZpX (zp8 : Byte) : RoundTrip.Statement (.adcZpX zp8) := fun _ => rfl
theorem RoundTrip.adcAbs (lo8 hi8 : Byte) : RoundTrip.Statement (.adcAbs lo8 hi8) := fun _ => rfl
theorem RoundTrip.adcAbsX (lo8 hi8 : Byte) : RoundTrip.Statement (.adcAbsX lo8 hi8) := fun _ => rfl
theorem RoundTrip.adcAbsY (lo8 hi8 : Byte) : RoundTrip.Statement (.adcAbsY lo8 hi8) := fun _ => rfl
theorem RoundTrip.adcIndX (zp8 : Byte) : RoundTrip.Statement (.adcIndX zp8) := fun _ => rfl
theorem RoundTrip.adcIndY (zp8 : Byte) : RoundTrip.Statement (.adcIndY zp8) := fun _ => rfl
theorem RoundTrip.sbcImm (imm8 : Byte) : RoundTrip.Statement (.sbcImm imm8) := fun _ => rfl
theorem RoundTrip.sbcZp (zp8 : Byte) : RoundTrip.Statement (.sbcZp zp8) := fun _ => rfl
theorem RoundTrip.sbcZpX (zp8 : Byte) : RoundTrip.Statement (.sbcZpX zp8) := fun _ => rfl
theorem RoundTrip.sbcAbs (lo8 hi8 : Byte) : RoundTrip.Statement (.sbcAbs lo8 hi8) := fun _ => rfl
theorem RoundTrip.sbcAbsX (lo8 hi8 : Byte) : RoundTrip.Statement (.sbcAbsX lo8 hi8) := fun _ => rfl
theorem RoundTrip.sbcAbsY (lo8 hi8 : Byte) : RoundTrip.Statement (.sbcAbsY lo8 hi8) := fun _ => rfl
theorem RoundTrip.sbcIndX (zp8 : Byte) : RoundTrip.Statement (.sbcIndX zp8) := fun _ => rfl
theorem RoundTrip.sbcIndY (zp8 : Byte) : RoundTrip.Statement (.sbcIndY zp8) := fun _ => rfl
theorem RoundTrip.andImm (imm8 : Byte) : RoundTrip.Statement (.andImm imm8) := fun _ => rfl
theorem RoundTrip.andZp (zp8 : Byte) : RoundTrip.Statement (.andZp zp8) := fun _ => rfl
theorem RoundTrip.andZpX (zp8 : Byte) : RoundTrip.Statement (.andZpX zp8) := fun _ => rfl
theorem RoundTrip.andAbs (lo8 hi8 : Byte) : RoundTrip.Statement (.andAbs lo8 hi8) := fun _ => rfl
theorem RoundTrip.andAbsX (lo8 hi8 : Byte) : RoundTrip.Statement (.andAbsX lo8 hi8) := fun _ => rfl
theorem RoundTrip.andAbsY (lo8 hi8 : Byte) : RoundTrip.Statement (.andAbsY lo8 hi8) := fun _ => rfl
theorem RoundTrip.andIndX (zp8 : Byte) : RoundTrip.Statement (.andIndX zp8) := fun _ => rfl
theorem RoundTrip.andIndY (zp8 : Byte) : RoundTrip.Statement (.andIndY zp8) := fun _ => rfl
theorem RoundTrip.oraImm (imm8 : Byte) : RoundTrip.Statement (.oraImm imm8) := fun _ => rfl
theorem RoundTrip.oraZp (zp8 : Byte) : RoundTrip.Statement (.oraZp zp8) := fun _ => rfl
theorem RoundTrip.oraZpX (zp8 : Byte) : RoundTrip.Statement (.oraZpX zp8) := fun _ => rfl
theorem RoundTrip.oraAbs (lo8 hi8 : Byte) : RoundTrip.Statement (.oraAbs lo8 hi8) := fun _ => rfl
theorem RoundTrip.oraAbsX (lo8 hi8 : Byte) : RoundTrip.Statement (.oraAbsX lo8 hi8) := fun _ => rfl
theorem RoundTrip.oraAbsY (lo8 hi8 : Byte) : RoundTrip.Statement (.oraAbsY lo8 hi8) := fun _ => rfl
theorem RoundTrip.oraIndX (zp8 : Byte) : RoundTrip.Statement (.oraIndX zp8) := fun _ => rfl
theorem RoundTrip.oraIndY (zp8 : Byte) : RoundTrip.Statement (.oraIndY zp8) := fun _ => rfl
theorem RoundTrip.eorImm (imm8 : Byte) : RoundTrip.Statement (.eorImm imm8) := fun _ => rfl
theorem RoundTrip.eorZp (zp8 : Byte) : RoundTrip.Statement (.eorZp zp8) := fun _ => rfl
theorem RoundTrip.eorZpX (zp8 : Byte) : RoundTrip.Statement (.eorZpX zp8) := fun _ => rfl
theorem RoundTrip.eorAbs (lo8 hi8 : Byte) : RoundTrip.Statement (.eorAbs lo8 hi8) := fun _ => rfl
theorem RoundTrip.eorAbsX (lo8 hi8 : Byte) : RoundTrip.Statement (.eorAbsX lo8 hi8) := fun _ => rfl
theorem RoundTrip.eorAbsY (lo8 hi8 : Byte) : RoundTrip.Statement (.eorAbsY lo8 hi8) := fun _ => rfl
theorem RoundTrip.eorIndX (zp8 : Byte) : RoundTrip.Statement (.eorIndX zp8) := fun _ => rfl
theorem RoundTrip.eorIndY (zp8 : Byte) : RoundTrip.Statement (.eorIndY zp8) := fun _ => rfl
theorem RoundTrip.sec : RoundTrip.Statement (.sec) := fun _ => rfl
theorem RoundTrip.clc : RoundTrip.Statement (.clc) := fun _ => rfl
theorem RoundTrip.sei : RoundTrip.Statement (.sei) := fun _ => rfl
theorem RoundTrip.cli : RoundTrip.Statement (.cli) := fun _ => rfl
theorem RoundTrip.sed : RoundTrip.Statement (.sed) := fun _ => rfl
theorem RoundTrip.cld : RoundTrip.Statement (.cld) := fun _ => rfl
theorem RoundTrip.clv : RoundTrip.Statement (.clv) := fun _ => rfl
theorem RoundTrip.bmi (rel8 : Byte) : RoundTrip.Statement (.bmi rel8) := fun _ => rfl
theorem RoundTrip.bpl (rel8 : Byte) : RoundTrip.Statement (.bpl rel8) := fun _ => rfl
theorem RoundTrip.bcc (rel8 : Byte) : RoundTrip.Statement (.bcc rel8) := fun _ => rfl
theorem RoundTrip.bcs (rel8 : Byte) : RoundTrip.Statement (.bcs rel8) := fun _ => rfl
theorem RoundTrip.beq (rel8 : Byte) : RoundTrip.Statement (.beq rel8) := fun _ => rfl
theorem RoundTrip.bne (rel8 : Byte) : RoundTrip.Statement (.bne rel8) := fun _ => rfl
theorem RoundTrip.bvs (rel8 : Byte) : RoundTrip.Statement (.bvs rel8) := fun _ => rfl
theorem RoundTrip.bvc (rel8 : Byte) : RoundTrip.Statement (.bvc rel8) := fun _ => rfl
theorem RoundTrip.jmpAbs (lo8 hi8 : Byte) : RoundTrip.Statement (.jmpAbs lo8 hi8) := fun _ => rfl
theorem RoundTrip.jmpInd (lo8 hi8 : Byte) : RoundTrip.Statement (.jmpInd lo8 hi8) := fun _ => rfl
theorem RoundTrip.cmpImm (imm8 : Byte) : RoundTrip.Statement (.cmpImm imm8) := fun _ => rfl
theorem RoundTrip.cmpZp (zp8 : Byte) : RoundTrip.Statement (.cmpZp zp8) := fun _ => rfl
theorem RoundTrip.cmpZpX (zp8 : Byte) : RoundTrip.Statement (.cmpZpX zp8) := fun _ => rfl
theorem RoundTrip.cmpAbs (lo8 hi8 : Byte) : RoundTrip.Statement (.cmpAbs lo8 hi8) := fun _ => rfl
theorem RoundTrip.cmpAbsX (lo8 hi8 : Byte) : RoundTrip.Statement (.cmpAbsX lo8 hi8) := fun _ => rfl
theorem RoundTrip.cmpAbsY (lo8 hi8 : Byte) : RoundTrip.Statement (.cmpAbsY lo8 hi8) := fun _ => rfl
theorem RoundTrip.cmpIndX (zp8 : Byte) : RoundTrip.Statement (.cmpIndX zp8) := fun _ => rfl
theorem RoundTrip.cmpIndY (zp8 : Byte) : RoundTrip.Statement (.cmpIndY zp8) := fun _ => rfl
theorem RoundTrip.bitZp (zp8 : Byte) : RoundTrip.Statement (.bitZp zp8) := fun _ => rfl
theorem RoundTrip.bitAbs (lo8 hi8 : Byte) : RoundTrip.Statement (.bitAbs lo8 hi8) := fun _ => rfl
theorem RoundTrip.ldxImm (imm8 : Byte) : RoundTrip.Statement (.ldxImm imm8) := fun _ => rfl
theorem RoundTrip.ldxZp (zp8 : Byte) : RoundTrip.Statement (.ldxZp zp8) := fun _ => rfl
theorem RoundTrip.ldxZpY (zp8 : Byte) : RoundTrip.Statement (.ldxZpY zp8) := fun _ => rfl
theorem RoundTrip.ldxAbs (lo8 hi8 : Byte) : RoundTrip.Statement (.ldxAbs lo8 hi8) := fun _ => rfl
theorem RoundTrip.ldxAbsY (lo8 hi8 : Byte) : RoundTrip.Statement (.ldxAbsY lo8 hi8) := fun _ => rfl
theorem RoundTrip.ldyImm (imm8 : Byte) : RoundTrip.Statement (.ldyImm imm8) := fun _ => rfl
theorem RoundTrip.ldyZp (zp8 : Byte) : RoundTrip.Statement (.ldyZp zp8) := fun _ => rfl
theorem RoundTrip.ldyZpX (zp8 : Byte) : RoundTrip.Statement (.ldyZpX zp8) := fun _ => rfl
theorem RoundTrip.ldyAbs (lo8 hi8 : Byte) : RoundTrip.Statement (.ldyAbs lo8 hi8) := fun _ => rfl
theorem RoundTrip.ldyAbsX (lo8 hi8 : Byte) : RoundTrip.Statement (.ldyAbsX lo8 hi8) := fun _ => rfl
theorem RoundTrip.stxZp (zp8 : Byte) : RoundTrip.Statement (.stxZp zp8) := fun _ => rfl
theorem RoundTrip.stxZpY (zp8 : Byte) : RoundTrip.Statement (.stxZpY zp8) := fun _ => rfl
theorem RoundTrip.stxAbs (lo8 hi8 : Byte) : RoundTrip.Statement (.stxAbs lo8 hi8) := fun _ => rfl
theorem RoundTrip.styZp (zp8 : Byte) : RoundTrip.Statement (.styZp zp8) := fun _ => rfl
theorem RoundTrip.styZpX (zp8 : Byte) : RoundTrip.Statement (.styZpX zp8) := fun _ => rfl
theorem RoundTrip.styAbs (lo8 hi8 : Byte) : RoundTrip.Statement (.styAbs lo8 hi8) := fun _ => rfl
theorem RoundTrip.inx : RoundTrip.Statement (.inx) := fun _ => rfl
theorem RoundTrip.iny : RoundTrip.Statement (.iny) := fun _ => rfl
theorem RoundTrip.dex : RoundTrip.Statement (.dex) := fun _ => rfl
theorem RoundTrip.dey : RoundTrip.Statement (.dey) := fun _ => rfl
theorem RoundTrip.cpxImm (imm8 : Byte) : RoundTrip.Statement (.cpxImm imm8) := fun _ => rfl
theorem RoundTrip.cpxZp (zp8 : Byte) : RoundTrip.Statement (.cpxZp zp8) := fun _ => rfl
theorem RoundTrip.cpxAbs (lo8 hi8 : Byte) : RoundTrip.Statement (.cpxAbs lo8 hi8) := fun _ => rfl
theorem RoundTrip.cpyImm (imm8 : Byte) : RoundTrip.Statement (.cpyImm imm8) := fun _ => rfl
theorem RoundTrip.cpyZp (zp8 : Byte) : RoundTrip.Statement (.cpyZp zp8) := fun _ => rfl
theorem RoundTrip.cpyAbs (lo8 hi8 : Byte) : RoundTrip.Statement (.cpyAbs lo8 hi8) := fun _ => rfl
theorem RoundTrip.tax : RoundTrip.Statement (.tax) := fun _ => rfl
theorem RoundTrip.txa : RoundTrip.Statement (.txa) := fun _ => rfl
theorem RoundTrip.tay : RoundTrip.Statement (.tay) := fun _ => rfl
theorem RoundTrip.tya : RoundTrip.Statement (.tya) := fun _ => rfl
theorem RoundTrip.jsr (lo8 hi8 : Byte) : RoundTrip.Statement (.jsr lo8 hi8) := fun _ => rfl
theorem RoundTrip.rts : RoundTrip.Statement (.rts) := fun _ => rfl
theorem RoundTrip.pha : RoundTrip.Statement (.pha) := fun _ => rfl
theorem RoundTrip.pla : RoundTrip.Statement (.pla) := fun _ => rfl
theorem RoundTrip.txs : RoundTrip.Statement (.txs) := fun _ => rfl
theorem RoundTrip.tsx : RoundTrip.Statement (.tsx) := fun _ => rfl
theorem RoundTrip.php : RoundTrip.Statement (.php) := fun _ => rfl
theorem RoundTrip.plp : RoundTrip.Statement (.plp) := fun _ => rfl
theorem RoundTrip.brk : RoundTrip.Statement (.brk) := fun _ => rfl
theorem RoundTrip.rti : RoundTrip.Statement (.rti) := fun _ => rfl
theorem RoundTrip.nop : RoundTrip.Statement (.nop) := fun _ => rfl
theorem RoundTrip.lsrAcc : RoundTrip.Statement (.lsrAcc) := fun _ => rfl
theorem RoundTrip.lsrZp (zp8 : Byte) : RoundTrip.Statement (.lsrZp zp8) := fun _ => rfl
theorem RoundTrip.lsrZpX (zp8 : Byte) : RoundTrip.Statement (.lsrZpX zp8) := fun _ => rfl
theorem RoundTrip.lsrAbs (lo8 hi8 : Byte) : RoundTrip.Statement (.lsrAbs lo8 hi8) := fun _ => rfl
theorem RoundTrip.lsrAbsX (lo8 hi8 : Byte) : RoundTrip.Statement (.lsrAbsX lo8 hi8) := fun _ => rfl
theorem RoundTrip.aslAcc : RoundTrip.Statement (.aslAcc) := fun _ => rfl
theorem RoundTrip.aslZp (zp8 : Byte) : RoundTrip.Statement (.aslZp zp8) := fun _ => rfl
theorem RoundTrip.aslZpX (zp8 : Byte) : RoundTrip.Statement (.aslZpX zp8) := fun _ => rfl
theorem RoundTrip.aslAbs (lo8 hi8 : Byte) : RoundTrip.Statement (.aslAbs lo8 hi8) := fun _ => rfl
theorem RoundTrip.aslAbsX (lo8 hi8 : Byte) : RoundTrip.Statement (.aslAbsX lo8 hi8) := fun _ => rfl
theorem RoundTrip.rolAcc : RoundTrip.Statement (.rolAcc) := fun _ => rfl
theorem RoundTrip.rolZp (zp8 : Byte) : RoundTrip.Statement (.rolZp zp8) := fun _ => rfl
theorem RoundTrip.rolZpX (zp8 : Byte) : RoundTrip.Statement (.rolZpX zp8) := fun _ => rfl
theorem RoundTrip.rolAbs (lo8 hi8 : Byte) : RoundTrip.Statement (.rolAbs lo8 hi8) := fun _ => rfl
theorem RoundTrip.rolAbsX (lo8 hi8 : Byte) : RoundTrip.Statement (.rolAbsX lo8 hi8) := fun _ => rfl
theorem RoundTrip.rorAcc : RoundTrip.Statement (.rorAcc) := fun _ => rfl
theorem RoundTrip.rorZp (zp8 : Byte) : RoundTrip.Statement (.rorZp zp8) := fun _ => rfl
theorem RoundTrip.rorZpX (zp8 : Byte) : RoundTrip.Statement (.rorZpX zp8) := fun _ => rfl
theorem RoundTrip.rorAbs (lo8 hi8 : Byte) : RoundTrip.Statement (.rorAbs lo8 hi8) := fun _ => rfl
theorem RoundTrip.rorAbsX (lo8 hi8 : Byte) : RoundTrip.Statement (.rorAbsX lo8 hi8) := fun _ => rfl
theorem RoundTrip.incZp (zp8 : Byte) : RoundTrip.Statement (.incZp zp8) := fun _ => rfl
theorem RoundTrip.incZpX (zp8 : Byte) : RoundTrip.Statement (.incZpX zp8) := fun _ => rfl
theorem RoundTrip.incAbs (lo8 hi8 : Byte) : RoundTrip.Statement (.incAbs lo8 hi8) := fun _ => rfl
theorem RoundTrip.incAbsX (lo8 hi8 : Byte) : RoundTrip.Statement (.incAbsX lo8 hi8) := fun _ => rfl
theorem RoundTrip.decZp (zp8 : Byte) : RoundTrip.Statement (.decZp zp8) := fun _ => rfl
theorem RoundTrip.decZpX (zp8 : Byte) : RoundTrip.Statement (.decZpX zp8) := fun _ => rfl
theorem RoundTrip.decAbs (lo8 hi8 : Byte) : RoundTrip.Statement (.decAbs lo8 hi8) := fun _ => rfl
theorem RoundTrip.decAbsX (lo8 hi8 : Byte) : RoundTrip.Statement (.decAbsX lo8 hi8) := fun _ => rfl

end Sys2Proof.Laws
end

