-- ==== Sys2Proof/Laws/Step.lean ====
section
/-! SUPPORT. What sampling leaves alone, field by field; the placing of an instruction keeps memory canonical. -/

namespace Sys2Proof.Machine

/-! ### `sample` (R233) -/

@[simp] theorem sample_a (s : State) : (sample s).a = s.a := by unfold sample; split <;> rfl
@[simp] theorem sample_x (s : State) : (sample s).x = s.x := by unfold sample; split <;> rfl
@[simp] theorem sample_y (s : State) : (sample s).y = s.y := by unfold sample; split <;> rfl
@[simp] theorem sample_sp (s : State) : (sample s).sp = s.sp := by unfold sample; split <;> rfl
@[simp] theorem sample_p (s : State) : (sample s).p = s.p := by unfold sample; split <;> rfl
@[simp] theorem sample_pc (s : State) : (sample s).pc = s.pc := by unfold sample; split <;> rfl
@[simp] theorem sample_mem (s : State) : (sample s).mem = s.mem := by unfold sample; split <;> rfl
@[simp] theorem sample_cfg (s : State) : (sample s).cfg = s.cfg := by unfold sample; split <;> rfl
@[simp] theorem sample_clk (s : State) : (sample s).clk = s.clk := by unfold sample; split <;> rfl
@[simp] theorem sample_freeCount (s : State) : (sample s).freeCount = s.freeCount := by unfold sample; split <;> rfl
@[simp] theorem sample_isIo (s : State) (a : Word) : (sample s).isIo a = s.isIo a := by unfold sample; split <;> rfl
@[simp] theorem sample_isWritable (s : State) (a : Word) : (sample s).isWritable a = s.isWritable a := by
  unfold sample; split <;> rfl
@[simp] theorem sample_byteAt (s : State) (a : Word) : (sample s).byteAt a = s.byteAt a := by
  unfold sample; split <;> rfl

/-! ### Placing an instruction -/

/-- Placing three bytes at PC keeps the canonical form. -/
theorem placeAtPc_wf (b0 b1 b2 : Byte) {s : State} (h : s.mem.wf = true) : (placeAtPc b0 b1 b2 s).wf = true :=
  Memory.wf_write _ (toNat_lt _) (Memory.wf_write _ (toNat_lt _) (Memory.wf_write _ (toNat_lt _) h))

/-- A state with an instruction placed keeps the canonical form. -/
theorem withFetchWord_wf (nbits w : Nat) {s : State} (h : s.mem.wf = true) :
    (s.withFetchWord nbits w).mem.wf = true := placeAtPc_wf _ _ _ h

/-! ### RESET, at the start of a run and as an event -/

/-- RESET answers exactly where no byte of the vector is a device's, with the registers it establishes (R231, R260). -/
theorem enterReset_ok {s t : State} :
    enterReset s = .ok t ↔ s.isIo resetVector = false ∧ s.isIo (resetVector + 1) = false ∧
      t = resetRegisters (word (s.byteAt resetVector) (s.byteAt (resetVector + 1))) s := by
  unfold enterReset
  simp only [bind_ok, pure_ok, Except.ok.injEq, load16_ok]
  constructor
  · rintro ⟨w, ⟨h0, h1, rfl⟩, rfl⟩; exact ⟨h0, h1, rfl⟩
  · rintro ⟨h0, h1, rfl⟩; exact ⟨_, ⟨h0, h1, rfl⟩, rfl⟩

/-! ### Runs up to a platform's end (R240, D25) -/

/-- A run that reaches its end is a run of the machine within the fuel, and its last state is at the end: at a boundary,
or with the last step. -/
theorem runToEnd_some {atB : State → Bool} {aft : State → State → Bool} {fuel : Nat} {s t : State}
    (h : runToEnd atB aft fuel s = some t) :
    (∃ n ≤ fuel, runsTo n s t) ∧ (atB t = true ∨ ∃ u, step u = .next t ∧ aft u t = true) := by
  induction fuel generalizing s with
  | zero =>
    unfold runToEnd at h
    split at h
    · next hb => cases h; exact ⟨⟨0, Nat.le_refl 0, rfl⟩, .inl hb⟩
    · cases h
  | succ k ih =>
    unfold runToEnd at h
    split at h
    · next hb => cases h; exact ⟨⟨0, Nat.zero_le _, rfl⟩, .inl hb⟩
    · split at h
      · next u hu =>
        have one : ∀ {n v}, runsTo n u v → runsTo (n + 1) s v := by
          intro n v hv
          simpa [runsTo, Host.Core.run, core, hu] using hv
        split at h
        · next ha => cases h; exact ⟨⟨1, by omega, one (n := 0) rfl⟩, .inr ⟨s, hu, ha⟩⟩
        · obtain ⟨⟨n, hn, hr⟩, e⟩ := ih h
          exact ⟨⟨n + 1, by omega, one hr⟩, e⟩
      · cases h
      · cases h

end Sys2Proof.Machine
end

