-- ==== Sys2Proof/Tests/Slice0.lean ====
section
/-! SUPPORT. Tests: the check of WellFormed, the decoding of words written out from the encodings of spec/, one-step
tests whose expected results are the vectors of 95_test_vectors.md, and for every statement with hypotheses a witness
that meets them. -/

namespace Sys2Proof.Tests

open Sys2Proof Sys2Proof.Machine

/-! ### WellFormed: the one check (R5, R89) -/

/-- Parameters of a part without ROR. -/
def withoutRor : Config := { configAtReset with hasRor := false }

theorem test_ror_needs_hasRor : Instr.wellFormed withoutRor .rorAcc = false := by decide
theorem test_ror_is_wellFormed : Instr.wellFormed configAtReset .rorAcc = true := by decide
theorem test_other_is_wellFormed : Instr.wellFormed withoutRor .rolAcc = true := by decide

/-! ### Decoding: every opcode, its bits written out from the encoding column of the table of R86

The operand bytes 0x12 and 0x34 follow the opcode byte in the order of R81. -/

theorem test_decode_lda :
    decode [0b10100001, 0x12] = .instr (.ldaIndX 0x12) [] ∧
    decode [0b10100101, 0x12] = .instr (.ldaZp 0x12) [] ∧
    decode [0b10101001, 0x12] = .instr (.ldaImm 0x12) [] ∧
    decode [0b10101101, 0x12, 0x34] = .instr (.ldaAbs 0x12 0x34) [] ∧
    decode [0b10110001, 0x12] = .instr (.ldaIndY 0x12) [] ∧
    decode [0b10110101, 0x12] = .instr (.ldaZpX 0x12) [] ∧
    decode [0b10111001, 0x12, 0x34] = .instr (.ldaAbsY 0x12 0x34) [] ∧
    decode [0b10111101, 0x12, 0x34] = .instr (.ldaAbsX 0x12 0x34) [] := by decide
theorem test_decode_sta :
    decode [0b10000001, 0x12] = .instr (.staIndX 0x12) [] ∧
    decode [0b10000101, 0x12] = .instr (.staZp 0x12) [] ∧
    decode [0b10001101, 0x12, 0x34] = .instr (.staAbs 0x12 0x34) [] ∧
    decode [0b10010001, 0x12] = .instr (.staIndY 0x12) [] ∧
    decode [0b10010101, 0x12] = .instr (.staZpX 0x12) [] ∧
    decode [0b10011001, 0x12, 0x34] = .instr (.staAbsY 0x12 0x34) [] ∧
    decode [0b10011101, 0x12, 0x34] = .instr (.staAbsX 0x12 0x34) [] := by decide
theorem test_decode_adc :
    decode [0b01100001, 0x12] = .instr (.adcIndX 0x12) [] ∧
    decode [0b01100101, 0x12] = .instr (.adcZp 0x12) [] ∧
    decode [0b01101001, 0x12] = .instr (.adcImm 0x12) [] ∧
    decode [0b01101101, 0x12, 0x34] = .instr (.adcAbs 0x12 0x34) [] ∧
    decode [0b01110001, 0x12] = .instr (.adcIndY 0x12) [] ∧
    decode [0b01110101, 0x12] = .instr (.adcZpX 0x12) [] ∧
    decode [0b01111001, 0x12, 0x34] = .instr (.adcAbsY 0x12 0x34) [] ∧
    decode [0b01111101, 0x12, 0x34] = .instr (.adcAbsX 0x12 0x34) [] := by decide
theorem test_decode_sbc :
    decode [0b11100001, 0x12] = .instr (.sbcIndX 0x12) [] ∧
    decode [0b11100101, 0x12] = .instr (.sbcZp 0x12) [] ∧
    decode [0b11101001, 0x12] = .instr (.sbcImm 0x12) [] ∧
    decode [0b11101101, 0x12, 0x34] = .instr (.sbcAbs 0x12 0x34) [] ∧
    decode [0b11110001, 0x12] = .instr (.sbcIndY 0x12) [] ∧
    decode [0b11110101, 0x12] = .instr (.sbcZpX 0x12) [] ∧
    decode [0b11111001, 0x12, 0x34] = .instr (.sbcAbsY 0x12 0x34) [] ∧
    decode [0b11111101, 0x12, 0x34] = .instr (.sbcAbsX 0x12 0x34) [] := by decide
theorem test_decode_and :
    decode [0b00100001, 0x12] = .instr (.andIndX 0x12) [] ∧
    decode [0b00100101, 0x12] = .instr (.andZp 0x12) [] ∧
    decode [0b00101001, 0x12] = .instr (.andImm 0x12) [] ∧
    decode [0b00101101, 0x12, 0x34] = .instr (.andAbs 0x12 0x34) [] ∧
    decode [0b00110001, 0x12] = .instr (.andIndY 0x12) [] ∧
    decode [0b00110101, 0x12] = .instr (.andZpX 0x12) [] ∧
    decode [0b00111001, 0x12, 0x34] = .instr (.andAbsY 0x12 0x34) [] ∧
    decode [0b00111101, 0x12, 0x34] = .instr (.andAbsX 0x12 0x34) [] := by decide
theorem test_decode_ora :
    decode [0b00000001, 0x12] = .instr (.oraIndX 0x12) [] ∧
    decode [0b00000101, 0x12] = .instr (.oraZp 0x12) [] ∧
    decode [0b00001001, 0x12] = .instr (.oraImm 0x12) [] ∧
    decode [0b00001101, 0x12, 0x34] = .instr (.oraAbs 0x12 0x34) [] ∧
    decode [0b00010001, 0x12] = .instr (.oraIndY 0x12) [] ∧
    decode [0b00010101, 0x12] = .instr (.oraZpX 0x12) [] ∧
    decode [0b00011001, 0x12, 0x34] = .instr (.oraAbsY 0x12 0x34) [] ∧
    decode [0b00011101, 0x12, 0x34] = .instr (.oraAbsX 0x12 0x34) [] := by decide
theorem test_decode_eor :
    decode [0b01000001, 0x12] = .instr (.eorIndX 0x12) [] ∧
    decode [0b01000101, 0x12] = .instr (.eorZp 0x12) [] ∧
    decode [0b01001001, 0x12] = .instr (.eorImm 0x12) [] ∧
    decode [0b01001101, 0x12, 0x34] = .instr (.eorAbs 0x12 0x34) [] ∧
    decode [0b01010001, 0x12] = .instr (.eorIndY 0x12) [] ∧
    decode [0b01010101, 0x12] = .instr (.eorZpX 0x12) [] ∧
    decode [0b01011001, 0x12, 0x34] = .instr (.eorAbsY 0x12 0x34) [] ∧
    decode [0b01011101, 0x12, 0x34] = .instr (.eorAbsX 0x12 0x34) [] := by decide

theorem test_decode_sec :
    decode [0b00111000] = .instr .sec [] := by decide
theorem test_decode_clc :
    decode [0b00011000] = .instr .clc [] := by decide
theorem test_decode_sei :
    decode [0b01111000] = .instr .sei [] := by decide
theorem test_decode_cli :
    decode [0b01011000] = .instr .cli [] := by decide
theorem test_decode_sed :
    decode [0b11111000] = .instr .sed [] := by decide
theorem test_decode_cld :
    decode [0b11011000] = .instr .cld [] := by decide
theorem test_decode_clv :
    decode [0b10111000] = .instr .clv [] := by decide

theorem test_decode_bmi :
    decode [0b00110000, 0x12] = .instr (.bmi 0x12) [] := by decide
theorem test_decode_bpl :
    decode [0b00010000, 0x12] = .instr (.bpl 0x12) [] := by decide
theorem test_decode_bcc :
    decode [0b10010000, 0x12] = .instr (.bcc 0x12) [] := by decide
theorem test_decode_bcs :
    decode [0b10110000, 0x12] = .instr (.bcs 0x12) [] := by decide
theorem test_decode_beq :
    decode [0b11110000, 0x12] = .instr (.beq 0x12) [] := by decide
theorem test_decode_bne :
    decode [0b11010000, 0x12] = .instr (.bne 0x12) [] := by decide
theorem test_decode_bvs :
    decode [0b01110000, 0x12] = .instr (.bvs 0x12) [] := by decide
theorem test_decode_bvc :
    decode [0b01010000, 0x12] = .instr (.bvc 0x12) [] := by decide
theorem test_decode_jmp :
    decode [0b01001100, 0x12, 0x34] = .instr (.jmpAbs 0x12 0x34) [] ∧
    decode [0b01101100, 0x12, 0x34] = .instr (.jmpInd 0x12 0x34) [] := by decide
theorem test_decode_cmp :
    decode [0b11000001, 0x12] = .instr (.cmpIndX 0x12) [] ∧
    decode [0b11000101, 0x12] = .instr (.cmpZp 0x12) [] ∧
    decode [0b11001001, 0x12] = .instr (.cmpImm 0x12) [] ∧
    decode [0b11001101, 0x12, 0x34] = .instr (.cmpAbs 0x12 0x34) [] ∧
    decode [0b11010001, 0x12] = .instr (.cmpIndY 0x12) [] ∧
    decode [0b11010101, 0x12] = .instr (.cmpZpX 0x12) [] ∧
    decode [0b11011001, 0x12, 0x34] = .instr (.cmpAbsY 0x12 0x34) [] ∧
    decode [0b11011101, 0x12, 0x34] = .instr (.cmpAbsX 0x12 0x34) [] := by decide
theorem test_decode_bit :
    decode [0b00100100, 0x12] = .instr (.bitZp 0x12) [] ∧
    decode [0b00101100, 0x12, 0x34] = .instr (.bitAbs 0x12 0x34) [] := by decide

theorem test_decode_ldx :
    decode [0b10100010, 0x12] = .instr (.ldxImm 0x12) [] ∧
    decode [0b10100110, 0x12] = .instr (.ldxZp 0x12) [] ∧
    decode [0b10101110, 0x12, 0x34] = .instr (.ldxAbs 0x12 0x34) [] ∧
    decode [0b10110110, 0x12] = .instr (.ldxZpY 0x12) [] ∧
    decode [0b10111110, 0x12, 0x34] = .instr (.ldxAbsY 0x12 0x34) [] := by decide
theorem test_decode_ldy :
    decode [0b10100000, 0x12] = .instr (.ldyImm 0x12) [] ∧
    decode [0b10100100, 0x12] = .instr (.ldyZp 0x12) [] ∧
    decode [0b10101100, 0x12, 0x34] = .instr (.ldyAbs 0x12 0x34) [] ∧
    decode [0b10110100, 0x12] = .instr (.ldyZpX 0x12) [] ∧
    decode [0b10111100, 0x12, 0x34] = .instr (.ldyAbsX 0x12 0x34) [] := by decide
theorem test_decode_stx :
    decode [0b10000110, 0x12] = .instr (.stxZp 0x12) [] ∧
    decode [0b10001110, 0x12, 0x34] = .instr (.stxAbs 0x12 0x34) [] ∧
    decode [0b10010110, 0x12] = .instr (.stxZpY 0x12) [] := by decide
theorem test_decode_sty :
    decode [0b10000100, 0x12] = .instr (.styZp 0x12) [] ∧
    decode [0b10001100, 0x12, 0x34] = .instr (.styAbs 0x12 0x34) [] ∧
    decode [0b10010100, 0x12] = .instr (.styZpX 0x12) [] := by decide
theorem test_decode_inx :
    decode [0b11101000] = .instr .inx [] := by decide
theorem test_decode_iny :
    decode [0b11001000] = .instr .iny [] := by decide
theorem test_decode_dex :
    decode [0b11001010] = .instr .dex [] := by decide
theorem test_decode_dey :
    decode [0b10001000] = .instr .dey [] := by decide
theorem test_decode_cpx :
    decode [0b11100000, 0x12] = .instr (.cpxImm 0x12) [] ∧
    decode [0b11100100, 0x12] = .instr (.cpxZp 0x12) [] ∧
    decode [0b11101100, 0x12, 0x34] = .instr (.cpxAbs 0x12 0x34) [] := by decide
theorem test_decode_cpy :
    decode [0b11000000, 0x12] = .instr (.cpyImm 0x12) [] ∧
    decode [0b11000100, 0x12] = .instr (.cpyZp 0x12) [] ∧
    decode [0b11001100, 0x12, 0x34] = .instr (.cpyAbs 0x12 0x34) [] := by decide
theorem test_decode_tax :
    decode [0b10101010] = .instr .tax [] := by decide
theorem test_decode_txa :
    decode [0b10001010] = .instr .txa [] := by decide
theorem test_decode_tay :
    decode [0b10101000] = .instr .tay [] := by decide
theorem test_decode_tya :
    decode [0b10011000] = .instr .tya [] := by decide

theorem test_decode_jsr :
    decode [0b00100000, 0x12, 0x34] = .instr (.jsr 0x12 0x34) [] := by decide
theorem test_decode_rts :
    decode [0b01100000] = .instr .rts [] := by decide
theorem test_decode_pha :
    decode [0b01001000] = .instr .pha [] := by decide
theorem test_decode_pla :
    decode [0b01101000] = .instr .pla [] := by decide
theorem test_decode_txs :
    decode [0b10011010] = .instr .txs [] := by decide
theorem test_decode_tsx :
    decode [0b10111010] = .instr .tsx [] := by decide
theorem test_decode_php :
    decode [0b00001000] = .instr .php [] := by decide
theorem test_decode_plp :
    decode [0b00101000] = .instr .plp [] := by decide
theorem test_decode_brk :
    decode [0b00000000] = .instr .brk [] := by decide
theorem test_decode_rti :
    decode [0b01000000] = .instr .rti [] := by decide
theorem test_decode_nop :
    decode [0b11101010] = .instr .nop [] := by decide

theorem test_decode_lsr :
    decode [0b01000110, 0x12] = .instr (.lsrZp 0x12) [] ∧
    decode [0b01001010] = .instr .lsrAcc [] ∧
    decode [0b01001110, 0x12, 0x34] = .instr (.lsrAbs 0x12 0x34) [] ∧
    decode [0b01010110, 0x12] = .instr (.lsrZpX 0x12) [] ∧
    decode [0b01011110, 0x12, 0x34] = .instr (.lsrAbsX 0x12 0x34) [] := by decide
theorem test_decode_asl :
    decode [0b00000110, 0x12] = .instr (.aslZp 0x12) [] ∧
    decode [0b00001010] = .instr .aslAcc [] ∧
    decode [0b00001110, 0x12, 0x34] = .instr (.aslAbs 0x12 0x34) [] ∧
    decode [0b00010110, 0x12] = .instr (.aslZpX 0x12) [] ∧
    decode [0b00011110, 0x12, 0x34] = .instr (.aslAbsX 0x12 0x34) [] := by decide
theorem test_decode_rol :
    decode [0b00100110, 0x12] = .instr (.rolZp 0x12) [] ∧
    decode [0b00101010] = .instr .rolAcc [] ∧
    decode [0b00101110, 0x12, 0x34] = .instr (.rolAbs 0x12 0x34) [] ∧
    decode [0b00110110, 0x12] = .instr (.rolZpX 0x12) [] ∧
    decode [0b00111110, 0x12, 0x34] = .instr (.rolAbsX 0x12 0x34) [] := by decide
theorem test_decode_ror :
    decode [0b01100110, 0x12] = .instr (.rorZp 0x12) [] ∧
    decode [0b01101010] = .instr .rorAcc [] ∧
    decode [0b01101110, 0x12, 0x34] = .instr (.rorAbs 0x12 0x34) [] ∧
    decode [0b01110110, 0x12] = .instr (.rorZpX 0x12) [] ∧
    decode [0b01111110, 0x12, 0x34] = .instr (.rorAbsX 0x12 0x34) [] := by decide
theorem test_decode_inc :
    decode [0b11100110, 0x12] = .instr (.incZp 0x12) [] ∧
    decode [0b11101110, 0x12, 0x34] = .instr (.incAbs 0x12 0x34) [] ∧
    decode [0b11110110, 0x12] = .instr (.incZpX 0x12) [] ∧
    decode [0b11111110, 0x12, 0x34] = .instr (.incAbsX 0x12 0x34) [] := by decide
theorem test_decode_dec :
    decode [0b11000110, 0x12] = .instr (.decZp 0x12) [] ∧
    decode [0b11001110, 0x12, 0x34] = .instr (.decAbs 0x12 0x34) [] ∧
    decode [0b11010110, 0x12] = .instr (.decZpX 0x12) [] ∧
    decode [0b11011110, 0x12, 0x34] = .instr (.decAbsX 0x12 0x34) [] := by decide

theorem test_decode_futureExpansion : decode [0x02, 0x12] = .futureExpansion 0x02 := by decide
theorem test_decode_truncated : decode [0xAD, 0x12] = .truncated := by decide
theorem test_decodeTableWord : decodeTableWord 24 0x34124C = some (.jmpAbs 0x12 0x34) := by decide
theorem test_decodeTableWord_short : decodeTableWord 8 0xEA = some .nop := by decide

/-! ### The assembler form: the examples of R92 -/

theorem test_text_immediate : (Instr.ldaImm 0x0A).text = "LDA #$0A" := by decide
theorem test_text_indirectY : (Instr.ldaIndY 0x4C).text = "LDA ($4C),Y" := by decide
theorem test_text_indirect : (Instr.jmpInd 0x5F 0x21).text = "JMP ($215F)" := by decide

/-! ### One step: the vectors of 95_test_vectors.md, named by their numbers there -/

/-- A machine with these registers, the byte of P, PC and cells; the rest as after reset. -/
def machine (a x y sp p : Byte) (pc : Word) (cells : List Host.Cell) : State :=
  { State.reset with a := a, x := x, y := y, sp := sp, p := Status.ofByte p, pc := pc, mem := Memory.ofCells cells }

/-- The same machine with other parameters. -/
def under (cfg : Config) (s : State) : State := { s with cfg := cfg }

/-- A, X, Y, SP, the byte of P and PC of a next state. -/
def registers : StepOutcome → Option (Byte × Byte × Byte × Byte × Byte × Word)
  | .next t => some (t.a, t.x, t.y, t.sp, t.p.toByte, t.pc)
  | _ => none

/-- The byte at an address of a next state. -/
def holds (addr : Word) : StepOutcome → Option Byte
  | .next t => some (t.byteAt addr)
  | _ => none

/-- The refusal of a step. -/
def refusal : StepOutcome → Option Refusal
  | .refused r => some r
  | _ => none

theorem test_V101_ldaZpX : registers (step (machine 0x00 0x02 0x00 0xFF 0x20 0x0600
      [(0x0600, 0xB5), (0x0601, 0xFF), (0x0001, 0x11), (0x0101, 0x99)])) =
    some (0x11, 0x02, 0x00, 0xFF, 0x20, 0x0602) := by decide
theorem test_V102_ldxZpY : registers (step (machine 0x00 0x00 0x20 0xFF 0x20 0x0600
      [(0x0600, 0xB6), (0x0601, 0xF0), (0x0010, 0x80), (0x0110, 0x01)])) =
    some (0x00, 0x80, 0x20, 0xFF, 0xA0, 0x0602) := by decide
theorem test_V103_ldaAbsX : registers (step (machine 0x00 0x0A 0x00 0xFF 0x20 0x0600
      [(0x0600, 0xBD), (0x0601, 0xF6), (0x0602, 0x31), (0x3200, 0x7F)])) =
    some (0x7F, 0x0A, 0x00, 0xFF, 0x20, 0x0603) := by decide
theorem test_V104_ldaAbsY : registers (step (machine 0x00 0x00 0x02 0xFF 0x20 0x0600
      [(0x0600, 0xB9), (0x0601, 0xFF), (0x0602, 0xFF), (0x0001, 0x42)])) =
    some (0x42, 0x00, 0x02, 0xFF, 0x20, 0x0603) := by decide
theorem test_V105_ldaIndX : registers (step (machine 0x00 0x00 0x00 0xFF 0x20 0x0600
      [(0x0600, 0xA1), (0x0601, 0xFF), (0x0000, 0x12), (0x00FF, 0x34), (0x0100, 0x99), (0x1234, 0xAB), (0x9934, 0xCD)])) =
    some (0xAB, 0x00, 0x00, 0xFF, 0xA0, 0x0602) := by decide
theorem test_V106_ldaIndX : registers (step (machine 0x00 0x05 0x00 0xFF 0x20 0x0600
      [(0x0600, 0xA1), (0x0601, 0xFE), (0x0003, 0x00), (0x0004, 0x20), (0x2000, 0x5A)])) =
    some (0x5A, 0x05, 0x00, 0xFF, 0x20, 0x0602) := by decide
theorem test_V107_ldaIndY : registers (step (machine 0x00 0x00 0x20 0xFF 0x20 0x0600
      [(0x0600, 0xB1), (0x0601, 0xFF), (0x0000, 0x12), (0x00FF, 0xF0), (0x0100, 0x77), (0x1310, 0x3C)])) =
    some (0x3C, 0x00, 0x20, 0xFF, 0x20, 0x0602) := by decide
theorem test_V108_staIndY_stores : holds 0x4100 (step (machine 0x55 0x00 0xFF 0xFF 0x20 0x0600
      [(0x0600, 0x91), (0x0601, 0x10), (0x0010, 0x01), (0x0011, 0x40)])) = some 0x55 := by decide
theorem test_V108_staIndY : registers (step (machine 0x55 0x00 0xFF 0xFF 0x20 0x0600
      [(0x0600, 0x91), (0x0601, 0x10), (0x0010, 0x01), (0x0011, 0x40)])) =
    some (0x55, 0x00, 0xFF, 0xFF, 0x20, 0x0602) := by decide
theorem test_V109_jmpInd : registers (step (machine 0x00 0x00 0x00 0xFF 0x20 0x0600
      [(0x0600, 0x6C), (0x0601, 0xFF), (0x0602, 0x30), (0x3000, 0x50), (0x30FF, 0x80), (0x3100, 0x40)])) =
    some (0x00, 0x00, 0x00, 0xFF, 0x20, 0x5080) := by decide
theorem test_V111_ldaImm : registers (step (machine 0x00 0x00 0x00 0xFF 0x20 0x0600
      [(0x0600, 0xA9), (0x0601, 0x80)])) =
    some (0x80, 0x00, 0x00, 0xFF, 0xA0, 0x0602) := by decide
theorem test_V112_staAbs_stores : holds 0x0200 (step (machine 0x00 0x00 0x00 0xFF 0xA0 0x0600
      [(0x0600, 0x8D), (0x0601, 0x00), (0x0602, 0x02)])) = some 0x00 := by decide
theorem test_V112_staAbs : registers (step (machine 0x00 0x00 0x00 0xFF 0xA0 0x0600
      [(0x0600, 0x8D), (0x0601, 0x00), (0x0602, 0x02)])) =
    some (0x00, 0x00, 0x00, 0xFF, 0xA0, 0x0603) := by decide
theorem test_V116_adcImm : registers (step (machine 0x7F 0x00 0x00 0xFF 0x20 0x0600
      [(0x0600, 0x69), (0x0601, 0x01)])) =
    some (0x80, 0x00, 0x00, 0xFF, 0xE0, 0x0602) := by decide
theorem test_V117_adcImm : registers (step (machine 0x58 0x00 0x00 0xFF 0x29 0x0600
      [(0x0600, 0x69), (0x0601, 0x46)])) =
    some (0x05, 0x00, 0x00, 0xFF, 0xE9, 0x0602) := by decide
theorem test_V121_sbcImm : registers (step (machine 0x50 0x00 0x00 0xFF 0x21 0x0600
      [(0x0600, 0xE9), (0x0601, 0xB0)])) =
    some (0xA0, 0x00, 0x00, 0xFF, 0xE0, 0x0602) := by decide
theorem test_V125_sbcImm : registers (step (machine 0x00 0x00 0x00 0xFF 0x28 0x0600
      [(0x0600, 0xE9), (0x0601, 0x00)])) =
    some (0x99, 0x00, 0x00, 0xFF, 0xA8, 0x0602) := by decide
theorem test_V127_andImm : registers (step (machine 0xCC 0x00 0x00 0xFF 0x20 0x0600
      [(0x0600, 0x29), (0x0601, 0x0F)])) =
    some (0x0C, 0x00, 0x00, 0xFF, 0x20, 0x0602) := by decide
theorem test_V128_oraImm : registers (step (machine 0x41 0x00 0x00 0xFF 0x20 0x0600
      [(0x0600, 0x09), (0x0601, 0x80)])) =
    some (0xC1, 0x00, 0x00, 0xFF, 0xA0, 0x0602) := by decide
theorem test_V129_eorImm : registers (step (machine 0xAA 0x00 0x00 0xFF 0x20 0x0600
      [(0x0600, 0x49), (0x0601, 0xFF)])) =
    some (0x55, 0x00, 0x00, 0xFF, 0x20, 0x0602) := by decide
theorem test_V130_eorZp : registers (step (machine 0x3C 0x00 0x00 0xFF 0x20 0x0600
      [(0x0600, 0x45), (0x0601, 0x10), (0x0010, 0x3C)])) =
    some (0x00, 0x00, 0x00, 0xFF, 0x22, 0x0602) := by decide
theorem test_V131_sec : registers (step (machine 0x00 0x00 0x00 0xFF 0x20 0x0600
      [(0x0600, 0x38)])) =
    some (0x00, 0x00, 0x00, 0xFF, 0x21, 0x0601) := by decide
theorem test_V132_clc : registers (step (machine 0x00 0x00 0x00 0xFF 0xFF 0x0600
      [(0x0600, 0x18)])) =
    some (0x00, 0x00, 0x00, 0xFF, 0xFE, 0x0601) := by decide
theorem test_V133_sei : registers (step (machine 0x00 0x00 0x00 0xFF 0x20 0x0600
      [(0x0600, 0x78)])) =
    some (0x00, 0x00, 0x00, 0xFF, 0x24, 0x0601) := by decide
theorem test_V134_cli : registers (step (machine 0x00 0x00 0x00 0xFF 0xFF 0x0600
      [(0x0600, 0x58)])) =
    some (0x00, 0x00, 0x00, 0xFF, 0xFB, 0x0601) := by decide
theorem test_V135_sed : registers (step (machine 0x00 0x00 0x00 0xFF 0x20 0x0600
      [(0x0600, 0xF8)])) =
    some (0x00, 0x00, 0x00, 0xFF, 0x28, 0x0601) := by decide
theorem test_V136_cld : registers (step (machine 0x00 0x00 0x00 0xFF 0xFF 0x0600
      [(0x0600, 0xD8)])) =
    some (0x00, 0x00, 0x00, 0xFF, 0xF7, 0x0601) := by decide
theorem test_V137_clv : registers (step (machine 0x00 0x00 0x00 0xFF 0xFF 0x0600
      [(0x0600, 0xB8)])) =
    some (0x00, 0x00, 0x00, 0xFF, 0xBF, 0x0601) := by decide
theorem test_V138_bne : registers (step (machine 0x00 0x00 0x00 0xFF 0x20 0x0600
      [(0x0600, 0xD0), (0x0601, 0xFE)])) =
    some (0x00, 0x00, 0x00, 0xFF, 0x20, 0x0600) := by decide
theorem test_V139_bne : registers (step (machine 0x00 0x00 0x00 0xFF 0x22 0x0600
      [(0x0600, 0xD0), (0x0601, 0xFE)])) =
    some (0x00, 0x00, 0x00, 0xFF, 0x22, 0x0602) := by decide
theorem test_V140_bcc : registers (step (machine 0x00 0x00 0x00 0xFF 0x20 0x0600
      [(0x0600, 0x90), (0x0601, 0x7F)])) =
    some (0x00, 0x00, 0x00, 0xFF, 0x20, 0x0681) := by decide
theorem test_V141_bcs : registers (step (machine 0x00 0x00 0x00 0xFF 0x21 0x0600
      [(0x0600, 0xB0), (0x0601, 0x80)])) =
    some (0x00, 0x00, 0x00, 0xFF, 0x21, 0x0582) := by decide
theorem test_V143_bmi : registers (step (machine 0x00 0x00 0x00 0xFF 0xA0 0x0600
      [(0x0600, 0x30), (0x0601, 0x02)])) =
    some (0x00, 0x00, 0x00, 0xFF, 0xA0, 0x0604) := by decide
theorem test_V144_bvs : registers (step (machine 0x00 0x00 0x00 0xFF 0x60 0x0600
      [(0x0600, 0x70), (0x0601, 0x02)])) =
    some (0x00, 0x00, 0x00, 0xFF, 0x60, 0x0604) := by decide
theorem test_V145_bvc : registers (step (machine 0x00 0x00 0x00 0xFF 0x60 0x0600
      [(0x0600, 0x50), (0x0601, 0x02)])) =
    some (0x00, 0x00, 0x00, 0xFF, 0x60, 0x0602) := by decide
theorem test_V146_beq : registers (step (machine 0x00 0x00 0x00 0xFF 0x22 0xFFFC
      [(0xFFFC, 0xF0), (0xFFFD, 0x05)])) =
    some (0x00, 0x00, 0x00, 0xFF, 0x22, 0x0003) := by decide
theorem test_V147_jmpAbs : registers (step (machine 0x00 0x00 0x00 0xFF 0x20 0x0600
      [(0x0600, 0x4C), (0x0601, 0x34), (0x0602, 0x12)])) =
    some (0x00, 0x00, 0x00, 0xFF, 0x20, 0x1234) := by decide
theorem test_V149_cmpImm : registers (step (machine 0x40 0x00 0x00 0xFF 0x20 0x0600
      [(0x0600, 0xC9), (0x0601, 0x41)])) =
    some (0x40, 0x00, 0x00, 0xFF, 0xA0, 0x0602) := by decide
theorem test_V150_cmpImm : registers (step (machine 0x80 0x00 0x00 0xFF 0x60 0x0600
      [(0x0600, 0xC9), (0x0601, 0x01)])) =
    some (0x80, 0x00, 0x00, 0xFF, 0x61, 0x0602) := by decide
theorem test_V151_bitZp : registers (step (machine 0x01 0x00 0x00 0xFF 0x20 0x0600
      [(0x0600, 0x24), (0x0601, 0x10), (0x0010, 0xC0)])) =
    some (0x01, 0x00, 0x00, 0xFF, 0xE2, 0x0602) := by decide
theorem test_V152_bitZp : registers (step (machine 0x3F 0x00 0x00 0xFF 0xE0 0x0600
      [(0x0600, 0x24), (0x0601, 0x10), (0x0010, 0x01)])) =
    some (0x3F, 0x00, 0x00, 0xFF, 0x20, 0x0602) := by decide
theorem test_V153_ldxImm : registers (step (machine 0x00 0x12 0x00 0xFF 0x20 0x0600
      [(0x0600, 0xA2), (0x0601, 0x00)])) =
    some (0x00, 0x00, 0x00, 0xFF, 0x22, 0x0602) := by decide
theorem test_V154_ldyZp : registers (step (machine 0x00 0x00 0x00 0xFF 0x20 0x0600
      [(0x0600, 0xA4), (0x0601, 0x10), (0x0010, 0xFF)])) =
    some (0x00, 0x00, 0xFF, 0xFF, 0xA0, 0x0602) := by decide
theorem test_V155_stxZpY_stores : holds 0x0008 (step (machine 0x00 0x77 0xF8 0xFF 0x20 0x0600
      [(0x0600, 0x96), (0x0601, 0x10)])) = some 0x77 := by decide
theorem test_V155_stxZpY : registers (step (machine 0x00 0x77 0xF8 0xFF 0x20 0x0600
      [(0x0600, 0x96), (0x0601, 0x10)])) =
    some (0x00, 0x77, 0xF8, 0xFF, 0x20, 0x0602) := by decide
theorem test_V156_styAbs_stores : holds 0x0300 (step (machine 0x00 0x00 0x88 0xFF 0x20 0x0600
      [(0x0600, 0x8C), (0x0601, 0x00), (0x0602, 0x03)])) = some 0x88 := by decide
theorem test_V156_styAbs : registers (step (machine 0x00 0x00 0x88 0xFF 0x20 0x0600
      [(0x0600, 0x8C), (0x0601, 0x00), (0x0602, 0x03)])) =
    some (0x00, 0x00, 0x88, 0xFF, 0x20, 0x0603) := by decide
theorem test_V157_inx : registers (step (machine 0x00 0xFF 0x00 0xFF 0x20 0x0600
      [(0x0600, 0xE8)])) =
    some (0x00, 0x00, 0x00, 0xFF, 0x22, 0x0601) := by decide
theorem test_V158_iny : registers (step (machine 0x00 0x00 0x7F 0xFF 0x20 0x0600
      [(0x0600, 0xC8)])) =
    some (0x00, 0x00, 0x80, 0xFF, 0xA0, 0x0601) := by decide
theorem test_V159_dex : registers (step (machine 0x00 0x00 0x00 0xFF 0x20 0x0600
      [(0x0600, 0xCA)])) =
    some (0x00, 0xFF, 0x00, 0xFF, 0xA0, 0x0601) := by decide
theorem test_V160_dey : registers (step (machine 0x00 0x33 0x01 0xFF 0x20 0x0600
      [(0x0600, 0x88)])) =
    some (0x00, 0x33, 0x00, 0xFF, 0x22, 0x0601) := by decide
theorem test_V161_cpxImm : registers (step (machine 0x00 0x20 0x00 0xFF 0x20 0x0600
      [(0x0600, 0xE0), (0x0601, 0x10)])) =
    some (0x00, 0x20, 0x00, 0xFF, 0x21, 0x0602) := by decide
theorem test_V162_cpyImm : registers (step (machine 0x00 0x00 0x20 0xFF 0x20 0x0600
      [(0x0600, 0xC0), (0x0601, 0x21)])) =
    some (0x00, 0x00, 0x20, 0xFF, 0xA0, 0x0602) := by decide
theorem test_V163_tax : registers (step (machine 0x80 0x00 0x00 0xFF 0x20 0x0600
      [(0x0600, 0xAA)])) =
    some (0x80, 0x80, 0x00, 0xFF, 0xA0, 0x0601) := by decide
theorem test_V164_txa : registers (step (machine 0x44 0x00 0x00 0xFF 0x20 0x0600
      [(0x0600, 0x8A)])) =
    some (0x00, 0x00, 0x00, 0xFF, 0x22, 0x0601) := by decide
theorem test_V165_tay : registers (step (machine 0x7F 0x00 0x00 0xFF 0x20 0x0600
      [(0x0600, 0xA8)])) =
    some (0x7F, 0x00, 0x7F, 0xFF, 0x20, 0x0601) := by decide
theorem test_V166_tya : registers (step (machine 0x00 0x00 0xFF 0xFF 0x20 0x0600
      [(0x0600, 0x98)])) =
    some (0xFF, 0x00, 0xFF, 0xFF, 0xA0, 0x0601) := by decide
theorem test_V167_pha_stores : holds 0x01FF (step (machine 0x42 0x00 0x00 0xFF 0x20 0x0600
      [(0x0600, 0x48)])) = some 0x42 := by decide
theorem test_V167_pha : registers (step (machine 0x42 0x00 0x00 0xFF 0x20 0x0600
      [(0x0600, 0x48)])) =
    some (0x42, 0x00, 0x00, 0xFE, 0x20, 0x0601) := by decide
theorem test_V169_pla : registers (step (machine 0x00 0x00 0x00 0xFE 0x20 0x0600
      [(0x0600, 0x68), (0x01FF, 0x80)])) =
    some (0x80, 0x00, 0x00, 0xFF, 0xA0, 0x0601) := by decide
theorem test_V170_pla : registers (step (machine 0x11 0x00 0x00 0xFF 0x20 0x0600
      [(0x0600, 0x68), (0x0100, 0x00)])) =
    some (0x00, 0x00, 0x00, 0x00, 0x22, 0x0601) := by decide
theorem test_V171_php_stores : holds 0x01FF (step (machine 0x00 0x00 0x00 0xFF 0xE3 0x0600
      [(0x0600, 0x08)])) = some 0xE3 := by decide
theorem test_V171_php : registers (step (machine 0x00 0x00 0x00 0xFF 0xE3 0x0600
      [(0x0600, 0x08)])) =
    some (0x00, 0x00, 0x00, 0xFE, 0xE3, 0x0601) := by decide
theorem test_V172_plp : registers (step (machine 0x00 0x00 0x00 0xFE 0x20 0x0600
      [(0x0600, 0x28), (0x01FF, 0xDF)])) =
    some (0x00, 0x00, 0x00, 0xFF, 0xFF, 0x0601) := by decide
theorem test_V173_plp : registers (step (machine 0x00 0x00 0x00 0xFE 0xFF 0x0600
      [(0x0600, 0x28), (0x01FF, 0x00)])) =
    some (0x00, 0x00, 0x00, 0xFF, 0x20, 0x0601) := by decide
theorem test_V174_txs : registers (step (machine 0x00 0x00 0x00 0x55 0xA0 0x0600
      [(0x0600, 0x9A)])) =
    some (0x00, 0x00, 0x00, 0x00, 0xA0, 0x0601) := by decide
theorem test_V175_tsx : registers (step (machine 0x00 0x00 0x00 0x80 0x20 0x0600
      [(0x0600, 0xBA)])) =
    some (0x00, 0x80, 0x00, 0x80, 0xA0, 0x0601) := by decide
theorem test_V176_jsr_stores : holds 0x01FF (step (machine 0x00 0x00 0x00 0xFF 0x20 0x0600
      [(0x0600, 0x20), (0x0601, 0x34), (0x0602, 0x12)])) = some 0x06 := by decide
theorem test_V176_jsr : registers (step (machine 0x00 0x00 0x00 0xFF 0x20 0x0600
      [(0x0600, 0x20), (0x0601, 0x34), (0x0602, 0x12)])) =
    some (0x00, 0x00, 0x00, 0xFD, 0x20, 0x1234) := by decide
theorem test_V177_rts : registers (step (machine 0x00 0x00 0x00 0xFD 0x20 0x1234
      [(0x1234, 0x60), (0x01FE, 0x02), (0x01FF, 0x06)])) =
    some (0x00, 0x00, 0x00, 0xFF, 0x20, 0x0603) := by decide
theorem test_V178_rts : registers (step (machine 0x00 0x00 0x00 0xFD 0x20 0x1234
      [(0x1234, 0x60), (0x01FE, 0xFF), (0x01FF, 0xFF)])) =
    some (0x00, 0x00, 0x00, 0xFF, 0x20, 0x0000) := by decide
theorem test_V179_brk_stores : holds 0x01FF (step (machine 0x00 0x00 0x00 0xFF 0x23 0x0700
      [(0x0700, 0x00), (0xFFFE, 0x00), (0xFFFF, 0x90)])) = some 0x07 := by decide
theorem test_V179_brk : registers (step (machine 0x00 0x00 0x00 0xFF 0x23 0x0700
      [(0x0700, 0x00), (0xFFFE, 0x00), (0xFFFF, 0x90)])) =
    some (0x00, 0x00, 0x00, 0xFC, 0x37, 0x9000) := by decide
theorem test_V181_rti : registers (step (machine 0x00 0x00 0x00 0xFC 0x24 0x9000
      [(0x9000, 0x40), (0x01FD, 0x33), (0x01FE, 0x02), (0x01FF, 0x07)])) =
    some (0x00, 0x00, 0x00, 0xFF, 0x33, 0x0702) := by decide
theorem test_V182_nop : registers (step (machine 0x00 0x00 0x00 0xFF 0xE3 0x0600
      [(0x0600, 0xEA)])) =
    some (0x00, 0x00, 0x00, 0xFF, 0xE3, 0x0601) := by decide
theorem test_V184_lsrAcc : registers (step (machine 0x8B 0x00 0x00 0xFF 0x20 0x0600
      [(0x0600, 0x4A)])) =
    some (0x45, 0x00, 0x00, 0xFF, 0x21, 0x0601) := by decide
theorem test_V185_lsrAcc : registers (step (machine 0x01 0x00 0x00 0xFF 0x20 0x0600
      [(0x0600, 0x4A)])) =
    some (0x00, 0x00, 0x00, 0xFF, 0x23, 0x0601) := by decide
theorem test_V186_aslAcc : registers (step (machine 0x81 0x00 0x00 0xFF 0x20 0x0600
      [(0x0600, 0x0A)])) =
    some (0x02, 0x00, 0x00, 0xFF, 0x21, 0x0601) := by decide
theorem test_V187_aslZp_stores : holds 0x0010 (step (machine 0x00 0x00 0x00 0xFF 0x20 0x0600
      [(0x0600, 0x06), (0x0601, 0x10), (0x0010, 0x80)])) = some 0x00 := by decide
theorem test_V187_aslZp : registers (step (machine 0x00 0x00 0x00 0xFF 0x20 0x0600
      [(0x0600, 0x06), (0x0601, 0x10), (0x0010, 0x80)])) =
    some (0x00, 0x00, 0x00, 0xFF, 0x23, 0x0602) := by decide
theorem test_V188_rolAcc : registers (step (machine 0x80 0x00 0x00 0xFF 0x21 0x0600
      [(0x0600, 0x2A)])) =
    some (0x01, 0x00, 0x00, 0xFF, 0x21, 0x0601) := by decide
theorem test_V189_rolAbsX_stores : holds 0x0201 (step (machine 0x00 0x01 0x00 0xFF 0x20 0x0600
      [(0x0600, 0x3E), (0x0601, 0x00), (0x0602, 0x02), (0x0201, 0x40)])) = some 0x80 := by decide
theorem test_V189_rolAbsX : registers (step (machine 0x00 0x01 0x00 0xFF 0x20 0x0600
      [(0x0600, 0x3E), (0x0601, 0x00), (0x0602, 0x02), (0x0201, 0x40)])) =
    some (0x00, 0x01, 0x00, 0xFF, 0xA0, 0x0603) := by decide
theorem test_V190_rorAcc : registers (step (machine 0x01 0x00 0x00 0xFF 0x21 0x0600
      [(0x0600, 0x6A)])) =
    some (0x80, 0x00, 0x00, 0xFF, 0xA1, 0x0601) := by decide
theorem test_V191_rorZp_stores : holds 0x0010 (step (machine 0x00 0x00 0x00 0xFF 0x20 0x0600
      [(0x0600, 0x66), (0x0601, 0x10), (0x0010, 0x01)])) = some 0x00 := by decide
theorem test_V191_rorZp : registers (step (machine 0x00 0x00 0x00 0xFF 0x20 0x0600
      [(0x0600, 0x66), (0x0601, 0x10), (0x0010, 0x01)])) =
    some (0x00, 0x00, 0x00, 0xFF, 0x23, 0x0602) := by decide
theorem test_V192_incZp_stores : holds 0x0010 (step (machine 0x00 0x00 0x00 0xFF 0x20 0x0600
      [(0x0600, 0xE6), (0x0601, 0x10), (0x0010, 0xFF)])) = some 0x00 := by decide
theorem test_V192_incZp : registers (step (machine 0x00 0x00 0x00 0xFF 0x20 0x0600
      [(0x0600, 0xE6), (0x0601, 0x10), (0x0010, 0xFF)])) =
    some (0x00, 0x00, 0x00, 0xFF, 0x22, 0x0602) := by decide
theorem test_V193_incZpX_stores : holds 0x0014 (step (machine 0x00 0x04 0x00 0xFF 0x20 0x0600
      [(0x0600, 0xF6), (0x0601, 0x10), (0x0014, 0x7F)])) = some 0x80 := by decide
theorem test_V193_incZpX : registers (step (machine 0x00 0x04 0x00 0xFF 0x20 0x0600
      [(0x0600, 0xF6), (0x0601, 0x10), (0x0014, 0x7F)])) =
    some (0x00, 0x04, 0x00, 0xFF, 0xA0, 0x0602) := by decide
theorem test_V194_decAbs_stores : holds 0x0200 (step (machine 0x00 0x00 0x00 0xFF 0x20 0x0600
      [(0x0600, 0xCE), (0x0601, 0x00), (0x0602, 0x02), (0x0200, 0x01)])) = some 0x00 := by decide
theorem test_V194_decAbs : registers (step (machine 0x00 0x00 0x00 0xFF 0x20 0x0600
      [(0x0600, 0xCE), (0x0601, 0x00), (0x0602, 0x02), (0x0200, 0x01)])) =
    some (0x00, 0x00, 0x00, 0xFF, 0x22, 0x0603) := by decide
theorem test_V195_decZp_stores : holds 0x0010 (step (machine 0x00 0x00 0x00 0xFF 0x21 0x0600
      [(0x0600, 0xC6), (0x0601, 0x10), (0x0010, 0x00)])) = some 0xFF := by decide
theorem test_V195_decZp : registers (step (machine 0x00 0x00 0x00 0xFF 0x21 0x0600
      [(0x0600, 0xC6), (0x0601, 0x10), (0x0010, 0x00)])) =
    some (0x00, 0x00, 0x00, 0xFF, 0xA1, 0x0602) := by decide

/-! Boundary events and the parameters -/

/-- The vectors of the platform of V196 to V203. -/
def vectors : List Host.Cell :=
  [(0xFFFA, 0x00), (0xFFFB, 0x09), (0xFFFC, 0x00), (0xFFFD, 0x06), (0xFFFE, 0x00), (0xFFFF, 0x08)]

/-- A machine at $0600 with those vectors and given interrupt inputs. -/
def interrupted (p : Byte) (irq nmi : Bool) : State :=
  { machine 0x11 0x22 0x33 0xFF p 0x0600 vectors with irqLine := irq, nmiPending := nmi }

theorem test_V197_irq : registers (step (interrupted 0x31 true false)) =
    some (0x11, 0x22, 0x33, 0xFC, 0x35, 0x0800) := by decide
theorem test_V197_irq_pushes : holds 0x01FD (step (interrupted 0x31 true false)) = some 0x21 := by decide
theorem test_V200_nmi : registers (step (interrupted 0x20 true true)) =
    some (0x11, 0x22, 0x33, 0xFC, 0x24, 0x0900) := by decide
theorem test_V204_beq_signMagnitude : registers (step (under { configAtReset with relDecode := .signMagnitude }
    (machine 0x00 0x00 0x00 0xFF 0x22 0x1000 [(0x1000, 0xF0), (0x1001, 0xA7)]))) =
    some (0x00, 0x00, 0x00, 0xFF, 0x22, 0x0FDB) := by decide
theorem test_V206_jmpInd_noWrap : registers (step (under { configAtReset with jmpIndPageWrap := false }
    (machine 0x00 0x00 0x00 0xFF 0x20 0x0600
      [(0x0600, 0x6C), (0x0601, 0xFF), (0x0602, 0x30), (0x3000, 0x50), (0x30FF, 0x80), (0x3100, 0x40)]))) =
    some (0x00, 0x00, 0x00, 0xFF, 0x20, 0x4080) := by decide
theorem test_V207_ror_absent : refusal (step (under withoutRor
    (machine 0x01 0x00 0x00 0xFF 0x20 0x0600 [(0x0600, 0x6A)]))) = some (.futureExpansion 0x6A) := by decide
theorem test_V208_php_pushedOnly : holds 0x01FF (step (under { configAtReset with bModel := .pushedOnly }
    (machine 0x00 0x00 0x00 0xFF 0xE3 0x0600 [(0x0600, 0x08)]))) = some 0xF3 := by decide
theorem test_V183_futureExpansion : refusal (step (machine 0x00 0x00 0x00 0xFF 0x20 0x0600 [(0x0600, 0x02)])) =
    some (.futureExpansion 0x02) := by decide
theorem test_V119_invalidBcd : refusal (step (under { configAtReset with invalidBcd := .refuse }
    (machine 0x05 0x00 0x00 0xFF 0x28 0x0600 [(0x0600, 0x69), (0x0601, 0x0A)]))) =
    some (.invalidBcd 0x05 0x0A) := by decide

/-! The end of a run (R240, D25) -/

/-- `JMP $0600` at $0600, the idiom of R240 for the end of a program. -/
def spinning : State := machine 0x00 0x00 0x00 0xFF 0x20 0x0600 [(0x0600, 0x4C), (0x0601, 0x00), (0x0602, 0x06)]

theorem test_haltPc_ends_at_start : runUntil (.haltPc 0x0600) 0 spinning = some spinning := by decide
theorem test_haltPc_needs_its_address : runUntil (.haltPc 0x0601) 1 spinning = none := by decide
theorem test_selfJump_ends : (runUntil .selfJump 1 spinning).isSome = true := by decide

/-- An interrupt whose handler lies at PC leaves PC where it was, but executes no instruction. -/
theorem test_selfJump_is_an_instruction :
    runUntil .selfJump 1 { interrupted 0x20 true false with pc := 0x0800 } = none := by decide
theorem test_refusal_is_no_end :
    runUntil .selfJump 2 (machine 0x00 0x00 0x00 0xFF 0x20 0x0600 [(0x0600, 0x02)]) = none := by decide

/-! ### Witnesses: for each statement with hypotheses, a state and operands that meet all of them -/

/-- A machine with a program counter at $0600, SP at $00 and a few cells: D = 0, C = 1. -/
def sample1 : State := machine 0x58 0xFF 0x20 0x00 0x21 0x0600
  [(0x0000, 0x12), (0x0010, 0x3C), (0x00FF, 0xF0), (0x0600, 0xA9), (0x0601, 0x46), (0xFFFA, 0x00), (0xFFFB, 0x09),
   (0xFFFC, 0x00), (0xFFFD, 0x06), (0xFFFE, 0x00), (0xFFFF, 0x08)]

/-- The same machine in decimal mode. -/
def sampleDecimal : State := { sample1 with p := { sample1.p with d := true } }

/-- A platform with a device at $D000 to $D0FF and in the last place of the stack, and read-only memory from $E000 on. -/
def platform : Config :=
  { configAtReset with ioRegion := [⟨0xD000, 0xD0FF⟩, ⟨0x01FF, 0x01FF⟩], readOnly := [⟨0xE000, 0xFFFF⟩] }

/-- Where the platform has no device, every list of addresses is accessible. -/
theorem accessible_sample1 (addrs : List Word) : accessible sample1 addrs := fun _ _ => rfl

theorem witness_DecodeUndoesEncode : Instr.wellFormed withoutRor (.jmpInd 0xFF 0x30) = true := by decide

theorem witness_EncodeUndoesDecode : decode [0x4C, 0x34, 0x12, 0xEA] = .instr (.jmpAbs 0x34 0x12) [0xEA] := by decide

theorem witness_FutureExpansionIsRefused :
    let s := machine 0 0 0 0 0 0x0600 [(0x0600, 0x02)]
    let t := machine 0 0 0 0 0 0x0600 [(0x0600, 0xFF)]
    (dueEvent s = none ∧ s.isIo s.pc = false ∧ s.byteAt s.pc ∈ futureExpansionOpcodes) ∧
    (dueEvent t = none ∧ t.isIo t.pc = false ∧ t.byteAt t.pc ∈ futureExpansionOpcodes) := by decide

theorem witness_AbsentRorIsRefused :
    let s := under withoutRor (machine 0 0 0 0 0 0x0600 [(0x0600, 0x66)])
    dueEvent s = none ∧ s.cfg.hasRor = false ∧ s.isIo s.pc = false ∧
      s.byteAt s.pc ∈ ([0x66, 0x6A, 0x6E, 0x76, 0x7E] : List Byte) := by decide

theorem witness_StepRunsDecodedInstruction :
    dueEvent sample1 = none ∧
      decodedAtPc sample1 = .instr (.ldaImm 0x46) [Config.unwrittenByte 0x0602] ∧
      accessible sample1 (instructionAddrs (.ldaImm 0x46) sample1) :=
  ⟨rfl, rfl, accessible_sample1 _⟩

/-- All three events at once (RESET is taken); NMI and IRQ; IRQ alone; IRQ masked by I, at its boundary. -/
theorem witness_BoundaryTakesEventByPriority :
    let all : State := { interrupted 0x20 true true with env := [⟨true, true, true⟩] }
    let two : State := interrupted 0x20 true true
    let irq : State := interrupted 0x20 true false
    let masked : State := interrupted 0x24 true false
    (resetRequested all = true) ∧
    (resetRequested two = false ∧ ((sample two).cfg.hasNmi && (sample two).nmiPending) = true) ∧
    (resetRequested irq = false ∧ ((sample irq).cfg.hasNmi && (sample irq).nmiPending) = false ∧
      ((sample irq).cfg.hasIrq && (sample irq).irqLine && !(sample irq).p.i) = true) ∧
    (resetRequested masked = false ∧ ((sample masked).cfg.hasNmi && (sample masked).nmiPending) = false ∧
      ((sample masked).cfg.hasIrq && (sample masked).irqLine && !(sample masked).p.i) = false) := by decide

theorem witness_SamplingReadsTheInputs :
    State.reset.env = [] ∧
    (({ State.reset with env := [⟨true, true, false⟩] } : State).env = ⟨true, true, false⟩ :: []) := ⟨rfl, rfl⟩

theorem witness_IrqEntersHandler :
    dueEvent (interrupted 0x20 true false) = some .irq ∧
      accessible (sample (interrupted 0x20 true false)) [pushSlot (sample (interrupted 0x20 true false)) 0,
        pushSlot (sample (interrupted 0x20 true false)) 1, pushSlot (sample (interrupted 0x20 true false)) 2,
        0xFFFE, 0xFFFF] :=
  ⟨rfl, fun _ _ => rfl⟩

theorem witness_NmiEntersHandler :
    dueEvent (interrupted 0x24 true true) = some .nmi ∧
      accessible (sample (interrupted 0x24 true true)) [pushSlot (sample (interrupted 0x24 true true)) 0,
        pushSlot (sample (interrupted 0x24 true true)) 1, pushSlot (sample (interrupted 0x24 true true)) 2,
        0xFFFA, 0xFFFB] :=
  ⟨rfl, fun _ _ => rfl⟩

theorem witness_ResetEventLoadsVector :
    let s : State := { sample1 with env := [⟨false, false, true⟩] }
    dueEvent s = some .reset ∧ accessible (sample s) [0xFFFC, 0xFFFD] :=
  ⟨rfl, fun _ _ => rfl⟩

/-- The ends of the device's region and their neighbours. -/
theorem witness_LoadAndStoreReachOneLocation :
    let s := under platform sample1
    s.isIo 0xCFFF = false ∧ s.isIo 0xD000 = true ∧ s.isIo 0xD0FF = true ∧ s.isIo 0xD100 = false ∧
      s.isWritable 0xDFFF = true ∧ s.isWritable 0xE000 = false := by decide

/-- SP = $00 for the push, SP = $FF for the pull: both wrap. -/
theorem witness_PushAndPullUseTheStackPage :
    let s := machine 0 0 0 0x00 0 0x0600 []
    let t := machine 0 0 0 0xFF 0 0x0600 []
    s.isIo (pushSlot s 0) = false ∧ t.isIo (pullSlot t 1) = false := by decide

/-- (zp,X) with b = $00, X = $FF: the pointer's bytes are at $FF and $00; (zp),Y with b = $FF: the same. -/
theorem witness_EffectiveAddressOfEachFormat :
    ((0x00FF : Word).toNat = ((0x00 : Byte).toNat + sample1.x.toNat) % 256 ∧
      (0x0000 : Word).toNat = ((0x00 : Byte).toNat + sample1.x.toNat + 1) % 256 ∧
      accessible sample1 [0x00FF, 0x0000]) ∧
    ((0x00FF : Word).toNat = (0xFF : Byte).toNat ∧ (0x0000 : Word).toNat = ((0xFF : Byte).toNat + 1) % 256 ∧
      accessible sample1 [0x00FF, 0x0000]) :=
  ⟨⟨rfl, rfl, accessible_sample1 _⟩, ⟨rfl, rfl, accessible_sample1 _⟩⟩

theorem witness_OperandByteOfEachForm :
    accessible sample1 (pointerAddrs (.indirectY 0xFF) sample1) ∧
    (effectiveAddress (.absoluteX 0x00 0xD0) (under platform sample1) = .ok 0xD0FF ∧
      (under platform sample1).isIo 0xD0FF = true) ∧
    (effectiveAddress (.absoluteX 0x01 0xD0) (under platform sample1) = .ok 0xD100 ∧
      (under platform sample1).isIo 0xD100 = false) :=
  ⟨accessible_sample1 _, ⟨rfl, rfl⟩, ⟨rfl, rfl⟩⟩

/-- The byte that the zero-page operand $10 names. -/
theorem operand_sample1 : operandByte (.memory (.zeroPage 0x10)) sample1 = .ok 0x3C := rfl

theorem witness_LoadsCopyTheOperand :
    ((Instr.ldaZp 0x10).operand = (Source.memory (.zeroPage 0x10)).operand ∧
      operandByte (.memory (.zeroPage 0x10)) sample1 = .ok 0x3C ∧ (Instr.ldaZp 0x10).mnemonic = .lda) ∧
    ((Instr.ldxImm 0x00).operand = (Source.immediate 0x00).operand ∧
      operandByte (.immediate 0x00) sample1 = .ok 0x00 ∧ (Instr.ldxImm 0x00).mnemonic = .ldx) ∧
    ((Instr.ldyZp 0x10).operand = (Source.memory (.zeroPage 0x10)).operand ∧ (Instr.ldyZp 0x10).mnemonic = .ldy) :=
  ⟨⟨rfl, rfl, rfl⟩, ⟨rfl, rfl, rfl⟩, ⟨rfl, rfl⟩⟩

theorem witness_StoresWriteOneByte :
    ((Instr.staAbsX 0x01 0xFF).operand = .memory (.absoluteX 0x01 0xFF) ∧
      effectiveAddress (.absoluteX 0x01 0xFF) sample1 = .ok 0x0000 ∧ sample1.isIo 0x0000 = false ∧
      (Instr.staAbsX 0x01 0xFF).mnemonic = .sta ∧ (0x58 : Byte) = sample1.a) ∧
    ((Instr.stxZpY 0xF0).operand = .memory (.zeroPageY 0xF0) ∧
      effectiveAddress (.zeroPageY 0xF0) sample1 = .ok 0x0010 ∧ sample1.isIo 0x0010 = false ∧
      (Instr.stxZpY 0xF0).mnemonic = .stx ∧ (0xFF : Byte) = sample1.x) ∧
    ((Instr.styZp 0x10).operand = .memory (.zeroPage 0x10) ∧
      effectiveAddress (.zeroPage 0x10) sample1 = .ok 0x0010 ∧
      (Instr.styZp 0x10).mnemonic = .sty ∧ (0x20 : Byte) = sample1.y) :=
  ⟨⟨rfl, rfl, rfl, rfl, rfl⟩, ⟨rfl, rfl, rfl, rfl, rfl⟩, ⟨rfl, rfl, rfl, rfl⟩⟩

/-- $58 + $3C + 1 = $95. -/
theorem witness_AdcBinaryAddsWithCarry :
    (Instr.adcZp 0x10).mnemonic = .adc ∧ (Instr.adcZp 0x10).operand = (Source.memory (.zeroPage 0x10)).operand ∧
      operandByte (.memory (.zeroPage 0x10)) sample1 = .ok 0x3C ∧ sample1.p.d = false ∧
      (0x95 : Byte).toNat = (sample1.a.toNat + (0x3C : Byte).toNat + sample1.p.c.toNat) % 256 :=
  ⟨rfl, rfl, rfl, rfl, rfl⟩

/-- 58 + 46 + 1 = 105. -/
theorem witness_AdcDecimalIsTheBcdSum :
    (Instr.adcImm 0x46).mnemonic = .adc ∧ (Instr.adcImm 0x46).operand = (Source.immediate 0x46).operand ∧
      operandByte (.immediate 0x46) sampleDecimal = .ok 0x46 ∧ sampleDecimal.p.d = true ∧
      validBcd sampleDecimal.a = true ∧ validBcd 0x46 = true ∧
      105 = bcdValue sampleDecimal.a + bcdValue 0x46 + sampleDecimal.p.c.toNat :=
  ⟨rfl, rfl, rfl, rfl, rfl, rfl, rfl⟩

/-- A valid operand, where invalid ones are refused; an invalid one, where the formula applies. -/
theorem witness_AdcDecimalFollowsTheFormula :
    let s := under { configAtReset with invalidBcd := .refuse } sampleDecimal
    (operandByte (.immediate 0x46) s = .ok 0x46 ∧ s.p.d = true ∧
      (s.cfg.invalidBcd = .sourceFormula ∨ (validBcd s.a = true ∧ validBcd 0x46 = true)) ∧
      0x9F = s.a.toNat + (0x46 : Byte).toNat + s.p.c.toNat ∧
      0xA5 = (if s.a.toNat % 16 + (0x46 : Byte).toNat % 16 + s.p.c.toNat > 9 then 0x9F + 6 else 0x9F) ∧
      0x105 = (if 0xA5 > 0x99 then 0xA5 + 0x60 else 0xA5)) ∧
    (operandByte (.immediate 0xFF) sampleDecimal = .ok 0xFF ∧
      (sampleDecimal.cfg.invalidBcd = .sourceFormula ∨ (validBcd sampleDecimal.a = true ∧ validBcd 0xFF = true))) :=
  ⟨⟨rfl, rfl, .inr ⟨rfl, rfl⟩, rfl, rfl, rfl⟩, ⟨rfl, .inl rfl⟩⟩

/-- $58 - $3C - 0 = $1C. -/
theorem witness_SbcBinarySubtractsWithBorrow :
    (Instr.sbcZp 0x10).mnemonic = .sbc ∧ (Instr.sbcZp 0x10).operand = (Source.memory (.zeroPage 0x10)).operand ∧
      operandByte (.memory (.zeroPage 0x10)) sample1 = .ok 0x3C ∧ sample1.p.d = false ∧
      0 = (if sample1.p.c then 0 else 1) ∧
      (0x1C : Byte).toNat = (sample1.a.toNat + 256 - (0x3C : Byte).toNat + 256 - 0) % 256 :=
  ⟨rfl, rfl, rfl, rfl, rfl, rfl⟩

/-- 58 - 99, below zero: the binary difference $58 - $99 is $BF. -/
theorem witness_SbcDecimalIsTheBcdDifference :
    (Instr.sbcImm 0x99).mnemonic = .sbc ∧ (Instr.sbcImm 0x99).operand = (Source.immediate 0x99).operand ∧
      operandByte (.immediate 0x99) sampleDecimal = .ok 0x99 ∧ sampleDecimal.p.d = true ∧
      validBcd sampleDecimal.a = true ∧ validBcd 0x99 = true ∧ 0 = (if sampleDecimal.p.c then 0 else 1) ∧
      (0xBF : Byte).toNat = (sampleDecimal.a.toNat + 256 - (0x99 : Byte).toNat + 256 - 0) % 256 :=
  ⟨rfl, rfl, rfl, rfl, rfl, rfl, rfl, rfl⟩

/-- The same subtraction over the integers: -65, then -71, then -167. -/
theorem witness_SbcDecimalFollowsTheFormula :
    let s := sampleDecimal
    operandByte (.immediate 0x99) s = .ok 0x99 ∧ s.p.d = true ∧
      (s.cfg.invalidBcd = .sourceFormula ∨ (validBcd s.a = true ∧ validBcd 0x99 = true)) ∧
      (0 : Int) = (if s.p.c then 0 else 1) ∧ (-65 : Int) = s.a.toNat - (0x99 : Byte).toNat - 0 ∧
      (0xBF : Byte) = BitVec.ofInt 8 (-65) ∧
      (-71 : Int) = (if ((s.a.toNat % 16 : Nat) : Int) - 0 < (((0x99 : Byte).toNat % 16 : Nat) : Int)
        then -65 - 6 else -65) ∧
      (-167 : Int) = (if (-71 : Int) < 0 ∨ (-71 : Int) > 0x99 then -71 - 0x60 else -71) :=
  ⟨rfl, rfl, .inl rfl, rfl, rfl, rfl, rfl, rfl⟩

/-- The operand's low digit is 10, the least that is refused. -/
theorem witness_InvalidBcdIsRefused :
    let s := under { configAtReset with invalidBcd := .refuse } sampleDecimal
    ((Instr.adcImm 0x0A).mnemonic = .adc ∨ (Instr.adcImm 0x0A).mnemonic = .sbc) ∧
      (Instr.adcImm 0x0A).operand = (Source.immediate 0x0A).operand ∧ operandByte (.immediate 0x0A) s = .ok 0x0A ∧
      s.p.d = true ∧ s.cfg.invalidBcd = .refuse ∧
      (s.a.toNat % 16 > 9 ∨ s.a.toNat / 16 > 9 ∨ (0x0A : Byte).toNat % 16 > 9 ∨ (0x0A : Byte).toNat / 16 > 9) :=
  ⟨.inl rfl, rfl, rfl, rfl, rfl, by decide⟩

theorem witness_LogicalOperationsWriteA :
    ((Instr.andImm 0x0F).mnemonic = .and ∧ (Instr.andImm 0x0F).operand = (Source.immediate 0x0F).operand ∧
      operandByte (.immediate 0x0F) sample1 = .ok 0x0F) ∧
    (∀ k, (sample1.a &&& 0x0F).getLsbD k = (sample1.a.getLsbD k && (0x0F : Byte).getLsbD k)) ∧
    ((Instr.oraImm 0x0F).mnemonic = .ora ∧ (Instr.oraImm 0x0F).operand = (Source.immediate 0x0F).operand) ∧
    (∀ k, (sample1.a ||| 0x0F).getLsbD k = (sample1.a.getLsbD k || (0x0F : Byte).getLsbD k)) ∧
    ((Instr.eorImm 0x0F).mnemonic = .eor ∧ (Instr.eorImm 0x0F).operand = (Source.immediate 0x0F).operand) ∧
    (∀ k, (sample1.a ^^^ 0x0F).getLsbD k = (sample1.a.getLsbD k ^^ (0x0F : Byte).getLsbD k)) :=
  ⟨⟨rfl, rfl, rfl⟩, fun _ => BitVec.getLsbD_and, ⟨rfl, rfl⟩, fun _ => BitVec.getLsbD_or, ⟨rfl, rfl⟩,
    fun _ => BitVec.getLsbD_xor⟩

/-- The eight branches, half of them taken, with the operand bytes $7F and $80 on both sides of the sign: their
displacement under either reading of the byte. -/
theorem witness_BranchesGoWhereTheirFlagSays :
    ((Instr.bmi 0x80 = .bmi 0x80 ∧ (0x30 : Byte) = 0x30 ∧ false = sample1.p.n) ∧
      (Instr.bpl 0x7F = .bpl 0x7F ∧ true = !sample1.p.n) ∧ (Instr.bcc 0x7F = .bcc 0x7F ∧ false = !sample1.p.c) ∧
      (Instr.bcs 0x80 = .bcs 0x80 ∧ true = sample1.p.c) ∧ (Instr.beq 0x80 = .beq 0x80 ∧ false = sample1.p.z) ∧
      (Instr.bne 0x7F = .bne 0x7F ∧ true = !sample1.p.z) ∧ (Instr.bvs 0x7F = .bvs 0x7F ∧ false = sample1.p.v) ∧
      (Instr.bvc 0x80 = .bvc 0x80 ∧ true = !sample1.p.v)) ∧
    ((127 : Int) = (if (0x7F : Byte).toNat < 128 then ((0x7F : Byte).toNat : Int) else (0x7F : Byte).toNat - 256) ∧
      (-128 : Int) = (if (0x80 : Byte).toNat < 128 then ((0x80 : Byte).toNat : Int) else (0x80 : Byte).toNat - 256) ∧
      (0 : Int) = (if (0x80 : Byte).toNat < 128 then ((0x80 : Byte).toNat : Int) else 128 - (0x80 : Byte).toNat)) := by
  decide

/-- The pointer $30FF, whose high byte is at $3000 where the page wraps and at $3100 where it does not; the pointer
$FFFF without the wrap, whose high byte is at $0000. -/
theorem witness_JumpsLoadThePc :
    let s := under { configAtReset with jmpIndPageWrap := false } sample1
    ((0x30FF : Word).toNat = (0x30 : Byte).toNat * 256 + (0xFF : Byte).toNat ∧
      (0x3000 : Word).toNat = (if (0xFF : Byte) = 0xFF ∧ sample1.cfg.jmpIndPageWrap = true then (0x30 : Byte).toNat * 256
        else ((0x30 : Byte).toNat * 256 + (0xFF : Byte).toNat + 1) % 65536) ∧
      accessible sample1 [0x30FF, 0x3000]) ∧
    ((0xFFFF : Word).toNat = (0xFF : Byte).toNat * 256 + (0xFF : Byte).toNat ∧
      (0x0000 : Word).toNat = (if (0xFF : Byte) = 0xFF ∧ s.cfg.jmpIndPageWrap = true then (0xFF : Byte).toNat * 256
        else ((0xFF : Byte).toNat * 256 + (0xFF : Byte).toNat + 1) % 65536) ∧
      accessible s [0xFFFF, 0x0000]) :=
  ⟨⟨rfl, rfl, accessible_sample1 _⟩, ⟨rfl, rfl, fun _ _ => rfl⟩⟩

theorem witness_ComparesSetThreeFlags :
    ((Instr.cmpImm 0x58).operand = (Source.immediate 0x58).operand ∧ operandByte (.immediate 0x58) sample1 = .ok 0x58 ∧
      (Instr.cmpImm 0x58).mnemonic = .cmp ∧ (0x58 : Byte) = sample1.a) ∧
    ((Instr.cpxImm 0x58).operand = (Source.immediate 0x58).operand ∧ (Instr.cpxImm 0x58).mnemonic = .cpx ∧
      (0xFF : Byte) = sample1.x) ∧
    ((Instr.cpyZp 0x10).operand = (Source.memory (.zeroPage 0x10)).operand ∧
      operandByte (.memory (.zeroPage 0x10)) sample1 = .ok 0x3C ∧ (Instr.cpyZp 0x10).mnemonic = .cpy ∧
      (0x20 : Byte) = sample1.y) :=
  ⟨⟨rfl, rfl, rfl, rfl⟩, ⟨rfl, rfl, rfl⟩, ⟨rfl, rfl, rfl, rfl⟩⟩

theorem witness_BitTestCopiesTopBits :
    (Instr.bitZp 0x10).mnemonic = .bit ∧ (Instr.bitZp 0x10).operand = .memory (.zeroPage 0x10) ∧
      operandByte (.memory (.zeroPage 0x10)) sample1 = .ok 0x3C := ⟨rfl, rfl, rfl⟩

/-- X = $FF for INX, $00 for DEX, and Y likewise: each wraps. -/
theorem witness_IndexRegistersCountModulo256 :
    let s := machine 0 0xFF 0xFF 0 0 0x0600 []
    let t := machine 0 0x00 0x00 0 0 0x0600 []
    (0x00 : Byte).toNat = (s.x.toNat + 1) % 256 ∧ (0x00 : Byte).toNat = (s.y.toNat + 1) % 256 ∧
      (0xFF : Byte).toNat = (t.x.toNat + 255) % 256 ∧ (0xFF : Byte).toNat = (t.y.toNat + 255) % 256 := by decide

theorem witness_JsrPushesItsLastAddress : accessible sample1 [pushSlot sample1 0, pushSlot sample1 1] :=
  accessible_sample1 _

theorem witness_RtsGoesPastThePulledAddress : accessible sample1 [pullSlot sample1 1, pullSlot sample1 2] :=
  accessible_sample1 _

theorem witness_RtsUndoesJsr :
    (∃ t, exec (.jsr 0x34 0x12) sample1 = .next t) ∧ sample1.isWritable (pushSlot sample1 0) = true ∧
      sample1.isWritable (pushSlot sample1 1) = true := ⟨⟨_, rfl⟩, rfl, rfl⟩

theorem witness_PushesWriteOneStackByte : accessible sample1 [pushSlot sample1 0] := accessible_sample1 _

theorem witness_PullsReadOneStackByte :
    let s := machine 0 0 0 0xFF 0 0x0600 [(0x0100, 0xDF)]
    accessible s [pullSlot s 1] ∧ 0xDF = s.byteAt (pullSlot s 1) := ⟨fun _ _ => rfl, rfl⟩

theorem witness_PullsUndoPushes :
    sample1.isWritable (pushSlot sample1 0) = true ∧ (∃ t, exec .pha sample1 = .next t) ∧
      ∃ t, exec .php sample1 = .next t := ⟨rfl, ⟨_, rfl⟩, ⟨_, rfl⟩⟩

theorem witness_BrkTakesTheBreakException :
    accessible sample1 [pushSlot sample1 0, pushSlot sample1 1, pushSlot sample1 2, 0xFFFE, 0xFFFF] :=
  accessible_sample1 _

theorem witness_RtiRestoresStatusAndPc :
    let s := machine 0 0 0 0xFF 0 0x0600 [(0x0100, 0x33)]
    accessible s [pullSlot s 1, pullSlot s 2, pullSlot s 3] ∧ 0x33 = s.byteAt (pullSlot s 1) := ⟨fun _ _ => rfl, rfl⟩

theorem witness_RtiUndoesBrk :
    (∃ t, exec .brk sample1 = .next t) ∧ sample1.isWritable (pushSlot sample1 0) = true ∧
      sample1.isWritable (pushSlot sample1 1) = true ∧ sample1.isWritable (pushSlot sample1 2) = true :=
  ⟨⟨_, rfl⟩, rfl, rfl, rfl⟩

theorem witness_RtiUndoesIrq :
    let s := interrupted 0x30 true false
    dueEvent s = some .irq ∧ (∃ t, step s = .next t) ∧ s.isWritable (pushSlot s 0) = true ∧
      s.isWritable (pushSlot s 1) = true ∧ s.isWritable (pushSlot s 2) = true :=
  ⟨rfl, ⟨_, rfl⟩, rfl, rfl, rfl⟩

/-- A = $81 with C = 1: LSR gives $40, ASL $02, ROL $03, ROR $C0. -/
theorem witness_ShiftsOfTheAccumulator :
    let s := machine 0x81 0 0 0 0x21 0x0600 []
    (true = s.a.getLsbD 0 ∧ (0x40 : Byte).getLsbD 7 = false ∧
      ∀ k, k < 7 → (0x40 : Byte).getLsbD k = s.a.getLsbD (k + 1)) ∧
    (true = s.a.getLsbD 7 ∧ (0x02 : Byte).getLsbD 0 = false ∧
      ∀ k, k < 7 → (0x02 : Byte).getLsbD (k + 1) = s.a.getLsbD k) ∧
    (true = s.a.getLsbD 7 ∧ (0x03 : Byte).getLsbD 0 = s.p.c ∧
      ∀ k, k < 7 → (0x03 : Byte).getLsbD (k + 1) = s.a.getLsbD k) ∧
    (true = s.a.getLsbD 0 ∧ (0xC0 : Byte).getLsbD 7 = s.p.c ∧
      ∀ k, k < 7 → (0xC0 : Byte).getLsbD k = s.a.getLsbD (k + 1)) := by decide

/-- The byte $3C at $10, and $FF at $30 for INC and DEC of a wrapping value, C = 1. -/
theorem witness_ReadModifyWriteOfMemory :
    ((Instr.lsrZp 0x10).operand = .memory (.zeroPage 0x10) ∧
      effectiveAddress (.zeroPage 0x10) sample1 = .ok 0x0010 ∧ sample1.isIo 0x0010 = false ∧
      (0x3C : Byte) = sample1.byteAt 0x0010) ∧
    ((Instr.lsrZp 0x10).mnemonic = .lsr ∧ (0x1E : Byte).toNat = (0x3C : Byte).toNat / 2 ∧
      false = (0x3C : Byte).getLsbD 0) ∧
    ((Instr.aslZp 0x10).mnemonic = .asl ∧ (0x78 : Byte).toNat = (0x3C : Byte).toNat * 2 % 256 ∧
      false = (0x3C : Byte).getLsbD 7) ∧
    ((Instr.rolZp 0x10).mnemonic = .rol ∧
      (0x79 : Byte).toNat = ((0x3C : Byte).toNat * 2 + sample1.p.c.toNat) % 256) ∧
    ((Instr.rorZp 0x10).mnemonic = .ror ∧
      (0x9E : Byte).toNat = ((0x3C : Byte).toNat + 256 * sample1.p.c.toNat) / 2) ∧
    ((Instr.incZp 0x10).mnemonic = .inc ∧ (0x00 : Byte).toNat = ((0xFF : Byte).toNat + 1) % 256) ∧
    ((Instr.decZp 0x10).mnemonic = .dec ∧ (0xFF : Byte).toNat = ((0x00 : Byte).toNat + 255) % 256) := by
  refine ⟨⟨rfl, rfl, rfl, rfl⟩, ?_⟩
  decide

/-- A stack whose only device is its last place: SP = $00, so the second push meets it. -/
theorem witness_DeviceAccessIsRefused :
    let s := under platform sample1
    let top := under platform (machine 0 0 0 0xFF 0 0x0600 [])
    let below := under platform (machine 0 0 0 0xFE 0 0x0600 [])
    (operandByte (.memory (.absolute 0x00 0xD0)) s = .error (.ioRead 0xD000) ∧
      (Instr.ldaAbs 0x00 0xD0).operand = (Source.memory (.absolute 0x00 0xD0)).operand) ∧
    (effectiveAddress (.absolute 0xFF 0xD0) s = .ok 0xD0FF ∧ s.isIo 0xD0FF = true ∧
      (Instr.staAbs 0xFF 0xD0).operand = .memory (.absolute 0xFF 0xD0) ∧
      (Instr.incAbs 0xFF 0xD0).operand = .memory (.absolute 0xFF 0xD0)) ∧
    top.isIo (pushSlot top 0) = true ∧ below.isIo (pullSlot below 1) = true ∧ s.isIo (pushSlot s 1) = true ∧
    s.isIo (word 0x00 0xD0) = true :=
  ⟨⟨rfl, rfl⟩, ⟨rfl, rfl, rfl, rfl⟩, rfl, rfl, rfl, rfl⟩

/-- A device in the zero page, where a pointer lies. -/
theorem witness_DeviceAccessIsRefused_pointer :
    let s := under { configAtReset with ioRegion := [⟨0x00FF, 0x00FF⟩] } sample1
    effectiveAddress (.indirectY 0xFF) s = .error (.ioRead 0x00FF) ∧
      (Instr.staIndY 0xFF).operand = .memory (.indirectY 0xFF) := ⟨rfl, rfl⟩

/-- A device at the last byte of Break's vector alone, every push outside it; then the three cases where the last access
of RTS, RTI and JMP indirect alone meets a device. -/
theorem witness_DeviceAccessIsRefused_last :
    let dev := fun a : Word => under { configAtReset with ioRegion := [⟨a, a⟩] } sample1
    ¬ accessible (dev 0xFFFF) [pushSlot (dev 0xFFFF) 0, pushSlot (dev 0xFFFF) 1, pushSlot (dev 0xFFFF) 2, 0xFFFE, 0xFFFF] ∧
      accessible (dev 0xFFFF) [pushSlot (dev 0xFFFF) 0, pushSlot (dev 0xFFFF) 1, pushSlot (dev 0xFFFF) 2, 0xFFFE] ∧
    ¬ accessible (dev 0x0102) [pullSlot (dev 0x0102) 1, pullSlot (dev 0x0102) 2] ∧
    ¬ accessible (dev 0x0103) [pullSlot (dev 0x0103) 1, pullSlot (dev 0x0103) 2, pullSlot (dev 0x0103) 3] ∧
    ¬ accessible (dev 0x1200) [word 0xFF 0x12, pointerHighAddr (dev 0x1200).cfg.jmpIndPageWrap 0xFF 0x12] := by
  simp only [accessible, List.mem_cons, List.not_mem_nil, or_false, forall_eq_or_imp, forall_eq]
  decide

/-- ADC of an operand in a device with a digit above 9 in A, where such a digit is refused too (entry 21). -/
theorem witness_DeviceAccessIsRefused_decimal :
    let s := under { platform with invalidBcd := .refuse } { sampleDecimal with a := 0x0A }
    s.p.d = true ∧ validBcd s.a = false ∧ operandByte (.memory (.absolute 0x00 0xD0)) s = .error (.ioRead 0xD000) ∧
      (Instr.adcAbs 0x00 0xD0).operand = (Source.memory (.absolute 0x00 0xD0)).operand := ⟨rfl, rfl, rfl, rfl⟩

/-- The image of `sample1`, outside every device; then a device at $FFFD alone, the last byte of the vector. -/
theorem witness_PowerOnStartsAtTheResetVector :
    (sample1.mem.read 0xFFFC = some 0x00 ∧ sample1.mem.read 0xFFFD = some 0x06 ∧
      accessible (placed configAtReset sample1.mem []) [0xFFFC, 0xFFFD]) ∧
    ¬ accessible (placed { configAtReset with ioRegion := [⟨0xFFFD, 0xFFFD⟩] } sample1.mem []) [0xFFFC, 0xFFFD] :=
  ⟨⟨rfl, rfl, fun _ _ => rfl⟩, fun h => Bool.noConfusion (h 0xFFFD (by simp))⟩

theorem witness_StartMemoryIsCanonical : ∃ s, powerOn configAtReset (Memory.ofCells vectors) [] = .ok s := ⟨_, rfl⟩

/-- An instruction at PC with no event due, and an event due where no program lies at PC. -/
theorem witness_StepAnswersWithoutDevices :
    let s := { interrupted 0x20 false true with pc := 0x0002 }
    (sample1.cfg.ioRegion = [] ∧ sample1.cfg.invalidBcd = .sourceFormula ∧
      ∃ i rest, decodedAtPc sample1 = .instr i rest) ∧
    (s.cfg.ioRegion = [] ∧ s.cfg.invalidBcd = .sourceFormula ∧ dueEvent s ≠ none) :=
  ⟨⟨rfl, rfl, _, _, rfl⟩, rfl, rfl, by decide⟩

theorem witness_StepKeepsMemoryCanonical : sample1.Inv ∧ ∃ t, step sample1 = .next t := ⟨rfl, ⟨_, rfl⟩⟩

/-- A push to read-only memory: the step succeeds, the place is not writable. -/
theorem witness_ReadOnlyMemoryNeverChanges :
    let s := under { configAtReset with readOnly := [⟨0x0100, 0x0100⟩] }
      (machine 0x42 0 0 0x00 0 0x0600 [(0x0100, 0x11), (0x0600, 0x48)])
    (∃ t, step s = .next t) ∧ s.isWritable 0x0100 = false := ⟨⟨_, rfl⟩, rfl⟩

theorem witness_StepKeepsTheParameters : ∃ t, step sample1 = .next t := ⟨_, rfl⟩

/-- For each clause an instruction that changes its flag. -/
theorem witness_FlagsChangeOnlyWhereListed :
    (∃ t, exec (.ldaImm 0x00) sample1 = .next t ∧ t.p.z ≠ sample1.p.z) ∧
    (∃ t, exec .clc sample1 = .next t ∧ t.p.c ≠ sample1.p.c) ∧
    (∃ t, exec (.adcImm 0x46) sample1 = .next t ∧ sample1.p.v = false ∧ t.p.v = true) ∧
    (∃ t, exec .brk sample1 = .next t ∧ t.p.b ≠ sample1.p.b) ∧
    (∃ t, exec .plp (machine 0 0 0 0xFF 0x10 0 [(0x0100, 0x00)]) = .next t ∧
      (machine 0 0 0 0xFF 0x10 0 [(0x0100, 0x00)]).p.b = true ∧ t.p.b = false) ∧
    (∃ t, exec .sed sample1 = .next t ∧ t.p.d ≠ sample1.p.d) ∧
    (∃ t, exec .sei sample1 = .next t ∧ t.p.i ≠ sample1.p.i) :=
  ⟨⟨_, rfl, by decide⟩, ⟨_, rfl, by decide⟩, ⟨_, rfl, rfl, rfl⟩, ⟨_, rfl, by decide⟩, ⟨_, rfl, rfl, rfl⟩,
    ⟨_, rfl, by decide⟩, ⟨_, rfl, by decide⟩⟩

/-- For each clause an instruction that changes its register. -/
theorem witness_RegistersChangeOnlyWhereListed :
    (∃ t, exec (.ldaImm 0x00) sample1 = .next t ∧ t.a ≠ sample1.a) ∧
    (∃ t, exec .inx sample1 = .next t ∧ t.x ≠ sample1.x) ∧
    (∃ t, exec .iny sample1 = .next t ∧ t.y ≠ sample1.y) ∧
    (∃ t, exec .txs sample1 = .next t ∧ t.sp ≠ sample1.sp) :=
  ⟨⟨_, rfl, by decide⟩, ⟨_, rfl, by decide⟩, ⟨_, rfl, by decide⟩, ⟨_, rfl, by decide⟩⟩

theorem witness_OtherInstructionsKeepMemory :
    (∃ t, exec .lsrAcc sample1 = .next t) ∧
      Instr.lsrAcc.mnemonic ∉ ([.sta, .stx, .sty, .inc, .dec, .pha, .php, .jsr, .brk] : List Mnemonic) ∧
      Instr.lsrAcc.operand = .accumulator := ⟨⟨_, rfl⟩, by decide, rfl⟩

/-- The base $1234 that the pointer at $20 holds, and operands of each clause. -/
theorem witness_IndexingPenaltyOfReads :
    let s := machine 0 0 0 0 0 0 [(0x0020, 0x34), (0x0021, 0x12)]
    (0x1234 : Word) = word (s.byteAt (zext16 0x20)) (s.byteAt (zext16 (0x20 + 1))) ∧
    (Instr.ldaAbsX 0xFF 0x31).operand = .memory (.absoluteX 0xFF 0x31) ∧
    (Instr.ldxAbsY 0xFF 0x31).operand = .memory (.absoluteY 0xFF 0x31) ∧
    (Instr.ldaIndY 0x20).operand = .memory (.indirectY 0x20) ∧
    (Instr.ldxZpY 0x20).operand = .memory (.zeroPageY 0x20) ∧
    (Instr.staAbsY 0xFF 0x31).operand = .memory (.absoluteY 0xFF 0x31) ∧
    (Instr.staIndY 0x20).operand = .memory (.indirectY 0x20) ∧
    (Instr.incAbsX 0xFF 0x31).operand = .memory (.absoluteX 0xFF 0x31) :=
  ⟨rfl, rfl, rfl, rfl, rfl, rfl, rfl, rfl⟩

theorem witness_ZeroPageAndAbsoluteAgree :
    (Instr.ldaZp 0xF4).mnemonic = (Instr.ldaAbs 0xF4 0x00).mnemonic ∧
      (Instr.ldaZp 0xF4).operand = .memory (.zeroPage 0xF4) ∧
      (Instr.ldaAbs 0xF4 0x00).operand = .memory (.absolute 0xF4 0) := ⟨rfl, rfl, rfl⟩


end Sys2Proof.Tests
end

/-! The statements of 00_scope.md: what a fetch and a step answer where the part does not have the instruction. -/

namespace Sys2Proof.Machine

/-! ### The step and the fetch (R84, R233) -/

/-- At a boundary where no event is due the step runs the instruction at PC, in the state sampled there. -/
theorem step_of_no_event {s : State} (h : dueEvent s = none) : step s = runInstruction (sample s) := by
  simp only [step, h]

/-- A refused fetch ends the instruction with the same refusal. -/
theorem runInstruction_of_fetch_error {s : State} {r : Refusal} (h : fetch s = .error r) :
    runInstruction s = .refused r := by
  simp only [runInstruction, h]

/-- An opcode whose row builds an instruction that the part does not have is refused by name, with no operand byte
read (R89). -/
theorem fetch_of_not_wellFormed {s : State} {r : OpcodeRow} (hio : s.isIo s.pc = false)
    (hrow : opcodeRow (s.byteAt s.pc) = some r) (hwf : (r.build 0 0).wellFormed s.cfg = false) :
    fetch s = .error (.futureExpansion (s.byteAt s.pc)) := by
  simp only [fetch, load_eq hio, ok_bind, hrow, hwf, Bool.false_eq_true, if_false, throw_error]

/-! ### ROR (R5, R89) -/

/-- The check of presence fails exactly for ROR on a part without it. -/
theorem wellFormed_eq_false {cfg : Config} {i : Instr} :
    i.wellFormed cfg = false ↔ cfg.hasRor = false ∧ i.mnemonic = .ror := by
  simp [Instr.wellFormed]

/-- The five opcodes have rows, and what those build is ROR (R86). -/
theorem opcodeRow_of_rorOpcode :
    ∀ op ∈ ([0x66, 0x6A, 0x6E, 0x76, 0x7E] : List Byte),
      ∃ r, opcodeRow op = some r ∧ (r.build 0 0).mnemonic = .ror := by
  simp only [List.forall_mem_cons]
  exact ⟨⟨_, rfl, rfl⟩, ⟨_, rfl, rfl⟩, ⟨_, rfl, rfl⟩, ⟨_, rfl, rfl⟩, ⟨_, rfl, rfl⟩, List.forall_mem_nil _⟩

/-- Settles O5: the row of a ROR opcode builds an instruction the part does not have, so the fetch refuses it. -/
theorem absentRorIsRefused : Obligations.AbsentRorIsRefused := by
  intro s hevent hror hio hop
  obtain ⟨r, hrow, hmnemonic⟩ := opcodeRow_of_rorOpcode _ hop
  have hfetch : fetch (sample s) = .error (.futureExpansion (s.byteAt s.pc)) := by
    have habsent : (r.build 0 0).wellFormed (sample s).cfg = false :=
      wellFormed_eq_false.2 ⟨by rwa [sample_cfg], hmnemonic⟩
    simpa using fetch_of_not_wellFormed (by simpa using hio) (by simpa using hrow) habsent
  rw [step_of_no_event hevent, runInstruction_of_fetch_error hfetch]

end Sys2Proof.Machine

/-! The statements of 10_state.md: the layout of P, the start of a run, and which instruction writes which part of the
state. -/

namespace Sys2Proof.Machine

/-! ### What the shared operations can change -/

/-- A write to memory changes no field but the memory. -/
theorem store_frame {addr : Word} {v : Byte} {s t : State} (h : store addr v s = .ok t) :
    ∃ m, t = s.withMem m := by
  obtain ⟨m, hm, -⟩ := store_spec v (store_ok.1 h).1
  exact ⟨m, Except.ok.inj (h.symm.trans hm)⟩

/-- A push changes SP and memory, nothing else. -/
theorem push_frame {v : Byte} {s t : State} (h : push v s = .ok t) :
    ∃ sp m, t = { s with sp := sp, mem := m } := by
  obtain ⟨u, hu, rfl⟩ := push_ok.1 h
  obtain ⟨m, rfl⟩ := store_frame hu
  exact ⟨_, _, rfl⟩

/-- Pushing a word changes SP and memory, nothing else. -/
theorem pushWord_frame {w : Word} {s t : State} (h : pushWord w s = .ok t) :
    ∃ sp m, t = { s with sp := sp, mem := m } := by
  obtain ⟨u, hu, ht⟩ := pushWord_ok.1 h
  obtain ⟨_, _, rfl⟩ := push_frame hu
  obtain ⟨_, _, rfl⟩ := push_frame ht
  exact ⟨_, _, rfl⟩

/-- A pull changes SP, nothing else. -/
theorem pull_frame {v : Byte} {s t : State} (h : pull s = .ok (v, t)) : ∃ sp, t = s.withSp sp :=
  ⟨_, (pull_ok.1 h).2.2⟩

/-- Pulling a word changes SP, nothing else. -/
theorem pullWord_frame {w : Word} {s t : State} (h : pullWord s = .ok (w, t)) : ∃ sp, t = s.withSp sp := by
  obtain ⟨_, _, u, hu, ht, -⟩ := pullWord_ok.1 h
  obtain ⟨_, rfl⟩ := pull_frame hu
  obtain ⟨_, rfl⟩ := pull_frame ht
  exact ⟨_, rfl⟩

/-- The entry sequence sets I and changes SP, PC and memory, nothing else (R223, R229). -/
theorem enterHandler_frame {ret : Word} {status : Byte} {vector : Word} {s t : State}
    (h : enterHandler ret status vector s = .ok t) :
    ∃ sp pc m, t = { s with sp := sp, p := { s.p with i := true }, pc := pc, mem := m } := by
  obtain ⟨u, w, handler, hu, hw, -, rfl⟩ := enterHandler_ok.1 h
  obtain ⟨_, _, rfl⟩ := pushWord_frame hu
  obtain ⟨_, _, rfl⟩ := push_frame hw
  exact ⟨_, _, _, rfl⟩

/-! ### What an instruction can change (R20, R37) -/

/-- What an instruction does to the registers and to the flags, by mnemonic and operand form: the fields that an
equation does not name are those of `s`, and a value that it leaves open is a variable. -/
inductive Effect (s : State) : Mnemonic → Operand → State → Prop
  | jumps {m o} (pc : Word) (hm : m ∈ [.bmi, .bpl, .bcc, .bcs, .beq, .bne, .bvs, .bvc, .jmp, .nop]) :
      Effect s m o (s.withPc pc)
  | stores {m o} (mem : Memory) (pc : Word) (hm : m ∈ [.sta, .stx, .sty]) :
      Effect s m o { s with mem := mem, pc := pc }
  | writesC {m o} (c : Bool) (pc : Word) (hm : m ∈ [.sec, .clc]) :
      Effect s m o { s with p := { s.p with c := c }, pc := pc }
  | writesI {m o} (i : Bool) (pc : Word) (hm : m ∈ [.sei, .cli]) :
      Effect s m o { s with p := { s.p with i := i }, pc := pc }
  | writesD {m o} (d : Bool) (pc : Word) (hm : m ∈ [.sed, .cld]) :
      Effect s m o { s with p := { s.p with d := d }, pc := pc }
  | clearsV {o} (pc : Word) : Effect s .clv o { s with p := { s.p with v := false }, pc := pc }
  | compares {m o} (v : Byte) (c : Bool) (pc : Word) (hm : m ∈ [.cmp, .cpx, .cpy]) :
      Effect s m o { s with p := setNZC s.p v c, pc := pc }
  | testsBits {o} (v : Byte) (pc : Word) : Effect s .bit o { s with p := bitFlags s.p s.a v, pc := pc }
  | writesA {m o} (v : Byte) (pc : Word) (hm : m ∈ [.lda, .and, .ora, .eor, .txa, .tya]) :
      Effect s m o { s with a := v, p := setNZ s.p v, pc := pc }
  | writesX {m o} (v : Byte) (pc : Word) (hm : m ∈ [.ldx, .tax, .tsx, .inx, .dex]) :
      Effect s m o { s with x := v, p := setNZ s.p v, pc := pc }
  | writesY {m o} (v : Byte) (pc : Word) (hm : m ∈ [.ldy, .tay, .iny, .dey]) :
      Effect s m o { s with y := v, p := setNZ s.p v, pc := pc }
  | adds {m o} (r : Sum) (pc : Word) (hm : m ∈ [.adc, .sbc]) :
      Effect s m o { s with a := r.value, p := setSum s.p r, pc := pc }
  | shiftsA {m} (r : Shifted) (pc : Word) (hm : m ∈ [.asl, .lsr, .rol, .ror]) :
      Effect s m .accumulator { s with a := r.value, p := setNZC s.p r.value r.carry, pc := pc }
  | shiftsMemory {m o} (r : Shifted) (mem : Memory) (pc : Word) (hm : m ∈ [.asl, .lsr, .rol, .ror]) :
      Effect s m o { s with p := setNZC s.p r.value r.carry, mem := mem, pc := pc }
  | counts {m o} (v : Byte) (mem : Memory) (pc : Word) (hm : m ∈ [.inc, .dec]) :
      Effect s m o { s with p := setNZ s.p v, mem := mem, pc := pc }
  | movesSp {m o} (sp : Byte) (mem : Memory) (pc : Word) (hm : m ∈ [.txs, .pha, .php, .jsr, .rts]) :
      Effect s m o { s with sp := sp, mem := mem, pc := pc }
  | pullsA {o} (v sp : Byte) (pc : Word) : Effect s .pla o { s with a := v, sp := sp, p := setNZ s.p v, pc := pc }
  | pullsP {m o} (p : Status) (sp : Byte) (pc : Word) (hm : m ∈ [.plp, .rti]) :
      Effect s m o { s with sp := sp, p := p, pc := pc }
  | breaks {o} (b : Bool) (sp : Byte) (mem : Memory) (pc : Word) (hb : s.p.b = true → b = true) :
      Effect s .brk o { s with sp := sp, p := { s.p with b := b, i := true }, mem := mem, pc := pc }

section
variable {s t : State} {m : Mnemonic} {o : Operand}

theorem branch_effect {rel8 : Byte} (h : branch m rel8 s = .ok t)
    (hm : m ∈ [.bmi, .bpl, .bcc, .bcs, .beq, .bne, .bvs, .bvc, .jmp, .nop]) : Effect s m o t := by
  unfold branch at h
  split at h <;> cases h
  · exact .jumps _ hm
  · exact .jumps _ hm

theorem jumpIndirect_effect {lo8 hi8 : Byte} (h : jumpIndirect lo8 hi8 s = .ok t) : Effect s .jmp o t := by
  obtain ⟨_, -, rfl⟩ := jumpIndirect_ok.1 h
  exact .jumps _ (by decide)

theorem compareRegister_effect {r : Byte} {src : Source} (h : compareRegister r src s = .ok t)
    (hm : m ∈ [.cmp, .cpx, .cpy]) : Effect s m o t := by
  obtain ⟨v, -, rfl⟩ := compareRegister_ok.1 h
  exact .compares _ _ _ hm

theorem bitTest_effect {src : Source} (h : bitTest src s = .ok t) : Effect s .bit o t := by
  obtain ⟨v, -, rfl⟩ := bitTest_ok.1 h
  exact .testsBits v _

theorem loadA_effect {src : Source} (h : loadA src s = .ok t) : Effect s .lda o t := by
  obtain ⟨v, -, rfl⟩ := loadA_ok.1 h
  exact .writesA v _ (by decide)

theorem loadX_effect {src : Source} (h : loadX src s = .ok t) : Effect s .ldx o t := by
  obtain ⟨v, -, rfl⟩ := loadX_ok.1 h
  exact .writesX v _ (by decide)

theorem loadY_effect {src : Source} (h : loadY src s = .ok t) : Effect s .ldy o t := by
  obtain ⟨v, -, rfl⟩ := loadY_ok.1 h
  exact .writesY v _ (by decide)

theorem writeA_effect {v : Byte} (h : writeA v s = .ok t) (hm : m ∈ [.lda, .and, .ora, .eor, .txa, .tya]) :
    Effect s m o t := by
  cases h
  exact .writesA v _ hm

theorem writeX_effect {v : Byte} (h : writeX v s = .ok t) (hm : m ∈ [.ldx, .tax, .tsx, .inx, .dex]) :
    Effect s m o t := by
  cases h
  exact .writesX v _ hm

theorem writeY_effect {v : Byte} (h : writeY v s = .ok t) (hm : m ∈ [.ldy, .tay, .iny, .dey]) :
    Effect s m o t := by
  cases h
  exact .writesY v _ hm

theorem logical_effect {f : Byte → Byte → Byte} {src : Source} (h : logical f src s = .ok t)
    (hm : m ∈ [.lda, .and, .ora, .eor, .txa, .tya]) : Effect s m o t := by
  obtain ⟨v, -, rfl⟩ := logical_ok.1 h
  exact .writesA _ _ hm

theorem arithmetic_effect {result : State → Byte → Sum} {src : Source} (h : arithmetic result src s = .ok t)
    (hm : m ∈ [.adc, .sbc]) : Effect s m o t := by
  obtain ⟨v, -, -, rfl⟩ := arithmetic_ok.1 h
  exact .adds _ _ hm

/-- The stores end alike: a byte written, PC moved on. -/
theorem store_effect {addr : Word} {v : Byte} {u : State} {n : Nat} (h : store addr v s = .ok u)
    (hm : m ∈ [.sta, .stx, .sty]) : Effect s m o (u.advance n) := by
  obtain ⟨_, rfl⟩ := store_frame h
  exact .stores _ _ hm

theorem storeA_effect {mode : MemMode} (h : storeA mode s = .ok t) : Effect s .sta o t := by
  obtain ⟨_, _, -, hu, rfl⟩ := storeA_ok.1 h
  exact store_effect hu (by decide)

theorem storeX_effect {mode : MemMode} (h : storeX mode s = .ok t) : Effect s .stx o t := by
  obtain ⟨_, _, -, hu, rfl⟩ := storeX_ok.1 h
  exact store_effect hu (by decide)

theorem storeY_effect {mode : MemMode} (h : storeY mode s = .ok t) : Effect s .sty o t := by
  obtain ⟨_, _, -, hu, rfl⟩ := storeY_ok.1 h
  exact store_effect hu (by decide)

/-- A read-modify-write changes N, Z, C, memory and PC, nothing else (R58). -/
theorem modifyMemory_frame {f : Byte → Bool → Shifted} {mode : MemMode} (h : modifyMemory f mode s = .ok t) :
    ∃ v mem pc, t = { s with p := setNZC s.p (f v s.p.c).value (f v s.p.c).carry, mem := mem, pc := pc } := by
  obtain ⟨_, v, _, -, -, hu, rfl⟩ := modifyMemory_ok.1 h
  obtain ⟨mem, rfl⟩ := store_frame hu
  exact ⟨v, mem, _, rfl⟩

theorem modifyAccumulator_effect {f : Byte → Bool → Shifted} (h : modifyAccumulator f s = .ok t)
    (hm : m ∈ [.asl, .lsr, .rol, .ror]) : Effect s m .accumulator t := by
  cases h
  exact .shiftsA _ _ hm

theorem modifyMemory_effect {f : Byte → Bool → Shifted} {mode : MemMode} (h : modifyMemory f mode s = .ok t)
    (hm : m ∈ [.asl, .lsr, .rol, .ror]) : Effect s m o t := by
  obtain ⟨v, _, _, rfl⟩ := modifyMemory_frame h
  exact .shiftsMemory (f v s.p.c) _ _ hm

/-- INC and DEC hand the carry through, so C keeps its value (R204, R205). -/
theorem count_effect {f : Byte → Byte} {mode : MemMode} (h : modifyMemory (fun v c => ⟨f v, c⟩) mode s = .ok t)
    (hm : m ∈ [.inc, .dec]) : Effect s m o t := by
  obtain ⟨v, _, _, rfl⟩ := modifyMemory_frame h
  exact .counts (f v) _ _ hm

theorem jumpSubroutine_effect {lo8 hi8 : Byte} (h : jumpSubroutine lo8 hi8 s = .ok t) : Effect s .jsr o t := by
  obtain ⟨_, hu, rfl⟩ := jumpSubroutine_ok.1 h
  obtain ⟨_, _, rfl⟩ := pushWord_frame hu
  exact .movesSp _ _ _ (by decide)

theorem returnSubroutine_effect (h : returnSubroutine s = .ok t) : Effect s .rts o t := by
  obtain ⟨_, _, hu, rfl⟩ := returnSubroutine_ok.1 h
  obtain ⟨_, rfl⟩ := pullWord_frame hu
  exact .movesSp _ _ _ (by decide)

theorem pushA_effect (h : pushA s = .ok t) : Effect s .pha o t := by
  obtain ⟨_, hu, rfl⟩ := pushA_ok.1 h
  obtain ⟨_, _, rfl⟩ := push_frame hu
  exact .movesSp _ _ _ (by decide)

theorem pushStatus_effect (h : pushStatus s = .ok t) : Effect s .php o t := by
  obtain ⟨_, hu, rfl⟩ := pushStatus_ok.1 h
  obtain ⟨_, _, rfl⟩ := push_frame hu
  exact .movesSp _ _ _ (by decide)

theorem pullA_effect (h : pullA s = .ok t) : Effect s .pla o t := by
  obtain ⟨v, _, hu, rfl⟩ := pullA_ok.1 h
  obtain ⟨_, rfl⟩ := pull_frame hu
  exact .pullsA v _ _

theorem pullStatus_effect (h : pullStatus s = .ok t) : Effect s .plp o t := by
  obtain ⟨_, _, hu, rfl⟩ := pullStatus_ok.1 h
  obtain ⟨_, rfl⟩ := pull_frame hu
  exact .pullsP _ _ _ (by decide)

theorem returnInterrupt_effect (h : returnInterrupt s = .ok t) : Effect s .rti o t := by
  obtain ⟨_, _, _, _, hu, hw, rfl⟩ := returnFromHandler_ok.1 h
  obtain ⟨_, rfl⟩ := pull_frame hu
  obtain ⟨_, rfl⟩ := pullWord_frame hw
  exact .pullsP _ _ _ (by decide)

/-- BRK never clears B, and before its push it changes no other flag (R223). -/
theorem breakStatus_frame (model : BModel) (p : Status) :
    ∃ b, breakStatus model p = { p with b := b } ∧ (p.b = true → b = true) := by
  cases model
  · exact ⟨true, rfl, fun _ => rfl⟩
  · exact ⟨p.b, rfl, id⟩

theorem forceBreak_effect (h : forceBreak s = .ok t) : Effect s .brk o t := by
  obtain ⟨_, _, _, rfl⟩ := enterHandler_frame h
  obtain ⟨b, hp, hb⟩ := breakStatus_frame s.cfg.bModel s.p
  rw [hp]
  exact .breaks b _ _ _ hb

/-- Everything an instruction can do to the fields of the state. -/
theorem exec_effect {i : Instr} (h : exec i s = .next t) : Effect s i.mnemonic i.operand t := by
  rw [exec_eq_meaning, finish_next] at h
  cases i with
  | ldaImm | ldaZp | ldaZpX | ldaAbs | ldaAbsX | ldaAbsY | ldaIndX | ldaIndY => exact loadA_effect h
  | staZp | staZpX | staAbs | staAbsX | staAbsY | staIndX | staIndY => exact storeA_effect h
  | adcImm | adcZp | adcZpX | adcAbs | adcAbsX | adcAbsY | adcIndX | adcIndY =>
    exact arithmetic_effect (m := .adc) h (by decide)
  | sbcImm | sbcZp | sbcZpX | sbcAbs | sbcAbsX | sbcAbsY | sbcIndX | sbcIndY =>
    exact arithmetic_effect (m := .sbc) h (by decide)
  | andImm | andZp | andZpX | andAbs | andAbsX | andAbsY | andIndX | andIndY =>
    exact logical_effect (m := .and) h (by decide)
  | oraImm | oraZp | oraZpX | oraAbs | oraAbsX | oraAbsY | oraIndX | oraIndY =>
    exact logical_effect (m := .ora) h (by decide)
  | eorImm | eorZp | eorZpX | eorAbs | eorAbsX | eorAbsY | eorIndX | eorIndY =>
    exact logical_effect (m := .eor) h (by decide)
  | sec | clc => cases h; exact .writesC _ _ (by decide)
  | sei | cli => cases h; exact .writesI _ _ (by decide)
  | sed | cld => cases h; exact .writesD _ _ (by decide)
  | clv => cases h; exact .clearsV _
  | bmi | bpl | bcc | bcs | beq | bne | bvs | bvc => exact branch_effect h (by simp [Instr.mnemonic])
  | jmpAbs => cases h; exact .jumps (m := .jmp) _ (by decide)
  | jmpInd => exact jumpIndirect_effect h
  | cmpImm | cmpZp | cmpZpX | cmpAbs | cmpAbsX | cmpAbsY | cmpIndX | cmpIndY =>
    exact compareRegister_effect (m := .cmp) h (by decide)
  | bitZp | bitAbs => exact bitTest_effect h
  | ldxImm | ldxZp | ldxZpY | ldxAbs | ldxAbsY => exact loadX_effect h
  | ldyImm | ldyZp | ldyZpX | ldyAbs | ldyAbsX => exact loadY_effect h
  | stxZp | stxZpY | stxAbs => exact storeX_effect h
  | styZp | styZpX | styAbs => exact storeY_effect h
  | inx | dex | tax | tsx => exact writeX_effect h (by decide)
  | iny | dey | tay => exact writeY_effect h (by decide)
  | txa | tya => exact writeA_effect h (by decide)
  | cpxImm | cpxZp | cpxAbs => exact compareRegister_effect (m := .cpx) h (by decide)
  | cpyImm | cpyZp | cpyAbs => exact compareRegister_effect (m := .cpy) h (by decide)
  | jsr => exact jumpSubroutine_effect h
  | rts => exact returnSubroutine_effect h
  | pha => exact pushA_effect h
  | php => exact pushStatus_effect h
  | pla => exact pullA_effect h
  | plp => exact pullStatus_effect h
  | txs => cases h; exact .movesSp _ _ _ (by decide)
  | brk => exact forceBreak_effect h
  | rti => exact returnInterrupt_effect h
  | nop => cases h; exact .jumps _ (by decide)
  | aslAcc | lsrAcc | rolAcc | rorAcc => exact modifyAccumulator_effect h (by decide)
  | lsrZp | lsrZpX | lsrAbs | lsrAbsX => exact modifyMemory_effect (m := .lsr) h (by decide)
  | aslZp | aslZpX | aslAbs | aslAbsX => exact modifyMemory_effect (m := .asl) h (by decide)
  | rolZp | rolZpX | rolAbs | rolAbsX => exact modifyMemory_effect (m := .rol) h (by decide)
  | rorZp | rorZpX | rorAbs | rorAbsX => exact modifyMemory_effect (m := .ror) h (by decide)
  | incZp | incZpX | incAbs | incAbsX => exact count_effect (m := .inc) h (by decide)
  | decZp | decZpX | decAbs | decAbsX => exact count_effect (m := .dec) h (by decide)

end

/-! ### The statements on flags and registers -/

/-- What is on one list is on any list that covers it. -/
theorem mem_of_covered {m : Mnemonic} {l l' : List Mnemonic} (hm : m ∈ l) (hl : ∀ k ∈ l, k ∈ l' := by decide) :
    m ∈ l' := hl m hm

/-- Settles O55: the effect of the instruction names every flag it can change. -/
theorem flagsChangeOnlyWhereListed : Obligations.FlagsChangeOnlyWhereListed := by
  intro i s t h
  have he := exec_effect h
  generalize i.mnemonic = m, i.operand = o at he
  cases he with
  | jumps | stores | movesSp => simp +contextual
  | writesC _ _ hm => exact ⟨by simp, fun _ => mem_of_covered hm, by simp +contextual⟩
  | writesI _ _ hm =>
    exact ⟨by simp, by simp, by simp, by simp +contextual, by simp, by simp +contextual, by simp,
      fun _ => mem_of_covered hm⟩
  | writesD _ _ hm =>
    exact ⟨by simp, by simp, by simp, by simp +contextual, by simp, by simp +contextual,
      fun _ => mem_of_covered hm, by simp⟩
  | clearsV => simp +contextual
  | compares _ _ _ hm | shiftsA _ _ hm | shiftsMemory _ _ _ hm =>
    exact ⟨fun _ => mem_of_covered hm, fun _ => mem_of_covered hm, by simp +contextual [setNZC, setNZ]⟩
  | testsBits => simp +contextual [bitFlags]
  | writesA _ _ hm | writesX _ _ hm | writesY _ _ hm | counts _ _ _ hm =>
    exact ⟨fun _ => mem_of_covered hm, by simp +contextual [setNZ]⟩
  | adds _ _ hm =>
    exact ⟨fun _ => mem_of_covered hm, fun _ => mem_of_covered hm, fun _ => mem_of_covered hm,
      fun _ _ => mem_of_covered hm, by simp +contextual [setSum]⟩
  | pullsA => simp +contextual [setNZ]
  | pullsP _ _ _ hm =>
    exact ⟨fun _ => mem_of_covered hm, fun _ => mem_of_covered hm, fun _ => mem_of_covered hm,
      fun _ _ => mem_of_covered hm, fun _ => mem_of_covered hm, fun _ _ => mem_of_covered hm,
      fun _ => mem_of_covered hm, fun _ => mem_of_covered hm⟩
  | breaks _ _ _ _ hb => simp +contextual [hb]

/-- The shifts and rotates of the accumulator are four instructions. -/
theorem eq_accumulatorShift {i : Instr} (ho : i.operand = .accumulator) :
    i ∈ ([.aslAcc, .lsrAcc, .rolAcc, .rorAcc] : List Instr) := by
  cases i with
  | aslAcc | lsrAcc | rolAcc | rorAcc => simp
  | _ => cases ho

/-- Settles O56: the effect of the instruction names every register it can change, and none of the other fields. -/
theorem registersChangeOnlyWhereListed : Obligations.RegistersChangeOnlyWhereListed := by
  intro i s t h
  have he := exec_effect h
  have hacc := eq_accumulatorShift (i := i)
  generalize i.mnemonic = m, i.operand = o at he hacc
  cases he with
  | jumps | stores | writesC | writesI | writesD | clearsV | compares | testsBits | shiftsMemory | counts | breaks => simp
  | writesA _ _ hm | adds _ _ hm => exact ⟨fun _ => .inl (mem_of_covered hm), by simp⟩
  | shiftsA => exact ⟨fun _ => .inr (hacc rfl), by simp⟩
  | writesX _ _ hm => exact ⟨by simp, fun _ => mem_of_covered hm, by simp⟩
  | writesY _ _ hm => exact ⟨by simp, by simp, fun _ => mem_of_covered hm, by simp⟩
  | movesSp _ _ _ hm | pullsP _ _ _ hm => exact ⟨by simp, by simp, by simp, fun _ => mem_of_covered hm, by simp⟩
  | pullsA => simp

/-! ### The parameters and the ghost counters (R43, R274) -/

/-- A charged outcome is a next state exactly when the outcome is one, with its total so much larger. -/
theorem chargeCycles_next {n : Nat} {r : StepOutcome} {t : State} :
    chargeCycles n r = .next t ↔ ∃ u, r = .next u ∧ t = u.withClk (u.clk + n) := by
  cases r <;> simp [chargeCycles, @eq_comm _ t]

/-- An instruction answers exactly when its fetch does and its meaning does, which then pays its cycles. -/
theorem runInstruction_next {s t : State} :
    runInstruction s = .next t ↔
      ∃ i u, fetch s = .ok i ∧ exec i s = .next u ∧ t = u.withClk (u.clk + cycles i s) := by
  unfold runInstruction
  cases fetch s <;> simp [chargeCycles_next]

/-- A step answers exactly when the event due does, or, where none is due, the instruction at PC (R233). -/
theorem step_next {s t : State} :
    step s = .next t ↔ (∃ e, dueEvent s = some e ∧ takeEvent e (sample s) = .ok t) ∨
      (dueEvent s = none ∧ runInstruction (sample s) = .next t) := by
  unfold step
  cases dueEvent s <;> simp [finish_next]

/-- The parameters are the same and the ghost counters are at least what they were. -/
def KeepsGhosts (s t : State) : Prop := t.cfg = s.cfg ∧ s.clk ≤ t.clk ∧ s.freeCount ≤ t.freeCount

/-- A RESET event draws five free bytes and adds a free number of cycles (R231, R261). -/
theorem takeReset_keepsGhosts {s t : State} (h : takeReset s = .ok t) : KeepsGhosts s t := by
  obtain ⟨u, hu, ht⟩ := bind_ok.1 h
  obtain ⟨-, -, rfl⟩ := enterReset_ok.1 hu
  cases ht
  exact ⟨rfl, Nat.le_add_right _ _, Nat.le_add_right _ _⟩

/-- An interrupt adds its seven cycles and draws nothing (R229, R230). -/
theorem takeInterrupt_keepsGhosts {vector : Word} {s t : State} (h : takeInterrupt vector s = .ok t) :
    KeepsGhosts s (t.withClk (t.clk + interruptCycles)) := by
  obtain ⟨_, _, _, rfl⟩ := enterHandler_frame h
  exact ⟨rfl, Nat.le_add_right _ _, Nat.le_refl _⟩

theorem takeEvent_keepsGhosts {e : Event} {s t : State} (h : takeEvent e s = .ok t) : KeepsGhosts s t := by
  cases e with
  | reset => exact takeReset_keepsGhosts h
  | nmi =>
    obtain ⟨u, hu, ht⟩ := bind_ok.1 h
    cases ht
    exact takeInterrupt_keepsGhosts (s := { s with nmiPending := false }) hu
  | irq =>
    obtain ⟨u, hu, ht⟩ := bind_ok.1 h
    cases ht
    exact takeInterrupt_keepsGhosts hu

/-- The meaning of an instruction leaves the three alone; its cycles are added after it. -/
theorem runInstruction_keepsGhosts {s t : State} (h : runInstruction s = .next t) : KeepsGhosts s t := by
  obtain ⟨i, u, -, hu, rfl⟩ := runInstruction_next.1 h
  obtain ⟨-, -, -, -, -, -, -, hcfg, hclk, hfree⟩ := registersChangeOnlyWhereListed i s u hu
  exact ⟨hcfg, by simp [hclk], by simp [hfree]⟩

/-- Settles O54: what a boundary samples is none of the three, and both kinds of step keep them. -/
theorem stepKeepsTheParameters : Obligations.StepKeepsTheParameters := by
  intro s t h
  have hkeep : KeepsGhosts (sample s) t := by
    rcases step_next.1 h with ⟨e, -, he⟩ | ⟨-, hi⟩
    · exact takeEvent_keepsGhosts he
    · exact runInstruction_keepsGhosts hi
  simpa [KeepsGhosts] using hkeep

/-! ### The layout of P (R27, R33) -/

/-- The byte of P, bit by bit. -/
theorem byteWith_getLsbD (p : Status) (bit4 : Bool) :
    (p.byteWith bit4).getLsbD 7 = p.n ∧ (p.byteWith bit4).getLsbD 6 = p.v ∧ (p.byteWith bit4).getLsbD 5 = true ∧
    (p.byteWith bit4).getLsbD 4 = bit4 ∧ (p.byteWith bit4).getLsbD 3 = p.d ∧ (p.byteWith bit4).getLsbD 2 = p.i ∧
    (p.byteWith bit4).getLsbD 1 = p.z ∧ (p.byteWith bit4).getLsbD 0 = p.c := by
  obtain ⟨n, v, b, d, i, z, c⟩ := p
  revert n v b d i z c bit4
  decide

/-- No flag is lost when P is written as a byte and read back. -/
theorem ofByte_toByte (p : Status) : Status.ofByte p.toByte = p := by
  obtain ⟨hn, hv, -, hb, hd, hi, hz, hc⟩ := byteWith_getLsbD p p.b
  simp only [Status.ofByte, Status.toByte, hn, hv, hb, hd, hi, hz, hc]

/-- Settles O47, from the byte of P bit by bit. -/
theorem statusByteLayout : Obligations.StatusByteLayout := by
  intro p bit4
  obtain ⟨hn, hv, h5, h4, hd, hi, hz, hc⟩ := byteWith_getLsbD p bit4
  exact ⟨hn, hv, h5, h4, hd, hi, hz, hc, rfl, ofByte_toByte p⟩

/-! ### The start of a run (R42, R231, R260) -/

/-- Settles O48: bit 5 is 1 in the byte of any P, the other two are fields of the reset state. -/
theorem resetStateHasTheSpecsValues : Obligations.ResetStateHasTheSpecsValues := by
  obtain ⟨-, -, hbit5, -⟩ := byteWith_getLsbD State.reset.p State.reset.p.b
  exact ⟨rfl, hbit5, rfl⟩

/-- A location that memory lists holds the listed byte. -/
theorem byteAt_of_read {s : State} {a : Word} {v : Byte} (h : s.mem.read a.toNat = some v) : s.byteAt a = v := by
  simp [State.byteAt, h]

/-- Neither byte of the reset vector is a device's. -/
theorem accessible_resetVector {s : State} :
    accessible s [0xFFFC, 0xFFFD] ↔ s.isIo resetVector = false ∧ s.isIo (resetVector + 1) = false := by
  simp [accessible, resetVector]

/-- Settles O49: the start of a run is RESET on the placed machine, which answers exactly where the vector can be read. -/
theorem powerOnStartsAtTheResetVector : Obligations.PowerOnStartsAtTheResetVector := by
  intro cfg image schedule
  refine ⟨fun lo hi hlo hhi hacc => ?_, fun hdevice => ?_⟩
  · obtain ⟨hlow, hhigh⟩ := accessible_resetVector.1 hacc
    have elo : (placed cfg image schedule).byteAt resetVector = lo := byteAt_of_read hlo
    have ehi : (placed cfg image schedule).byteAt (resetVector + 1) = hi := byteAt_of_read hhi
    refine ⟨_, enterReset_ok.2 ⟨hlow, hhigh, rfl⟩, ?_, rfl, rfl, rfl, rfl, rfl⟩
    rw [elo, ehi]
    rfl
  · cases hrun : powerOn cfg image schedule with
    | error e => exact ⟨e, rfl⟩
    | ok s =>
      obtain ⟨hlow, hhigh, -⟩ := enterReset_ok.1 hrun
      exact absurd (accessible_resetVector.2 ⟨hlow, hhigh⟩) hdevice

end Sys2Proof.Machine

/-! The statements of 20_memory.md, first part: what one access does, what a step can do to memory, and memory at the
start of a run. -/

namespace Sys2Proof.Machine

/-! ### One read and one write (R56, R57) -/

/-- A read of a device's address is refused, naming the address. -/
theorem load_of_isIo {a : Word} {s : State} (h : s.isIo a = true) : load a s = .error (.ioRead a) := by
  simp [load, h]

/-- A write to a device's address is refused, naming the address. -/
theorem store_of_isIo {a : Word} {v : Byte} {s : State} (h : s.isIo a = true) :
    store a v s = .error (.ioWrite a) := by
  simp [store, h]

/-- Settles O12, from what a read and a write do on either side of the region of devices. -/
theorem loadAndStoreReachOneLocation : Obligations.LoadAndStoreReachOneLocation := by
  intro s a v
  refine ⟨fun hio => ⟨load_eq hio, ?_⟩, fun hio => ⟨load_of_isIo hio, store_of_isIo hio⟩⟩
  obtain ⟨m, hstore, hbyte, -⟩ := store_spec v hio
  exact ⟨_, hstore, rfl, (hbyte a).trans (if_pos rfl), fun b hb => (hbyte b).trans (if_neg (by simpa using hb))⟩

/-! ### The instructions that write no memory (R59) -/

/-- An instruction on the accumulator writes no memory. -/
theorem exec_keepsMem_of_accumulator {i : Instr} {s t : State} (h : exec i s = .next t)
    (ho : i.operand = .accumulator) : t.mem = s.mem := by
  rw [exec_eq_meaning, finish_next] at h
  have hi := eq_accumulatorShift ho
  simp only [List.mem_cons, List.not_mem_nil, or_false] at hi
  rcases hi with rfl | rfl | rfl | rfl <;> · cases h; rfl

/-- RTS and TXS, which move SP, write no memory. -/
theorem exec_keepsMem_of_rts_or_txs {i : Instr} {s t : State} (h : exec i s = .next t)
    (hm : i.mnemonic = .rts ∨ i.mnemonic = .txs) : t.mem = s.mem := by
  rw [exec_eq_meaning, finish_next] at h
  rcases hm with hm | hm <;> rw [hm] at h
  · obtain ⟨_, _, hpull, rfl⟩ := returnSubroutine_ok.1 h
    obtain ⟨_, rfl⟩ := pullWord_frame hpull
    rfl
  · cases h; rfl

/-- The mnemonics that write memory in every form they have. -/
def storingMnemonics : List Mnemonic := [.sta, .stx, .sty, .inc, .dec, .pha, .php, .jsr, .brk]

/-- An instruction that is no store, no push and no read-modify-write of memory keeps the memory: the effect of the
others names no memory, but where it also stands for RTS, TXS or a shift of the accumulator. -/
theorem exec_keepsMem {i : Instr} {s t : State} (h : exec i s = .next t) (hstore : i.mnemonic ∉ storingMnemonics)
    (hshift : i.mnemonic ∈ ([.lsr, .asl, .rol, .ror] : List Mnemonic) → i.operand = .accumulator) :
    t.mem = s.mem := by
  have he := exec_effect h
  have hacc := exec_keepsMem_of_accumulator h
  have hsp := exec_keepsMem_of_rts_or_txs h
  generalize i.mnemonic = m, i.operand = o at he hstore hshift hacc hsp
  cases he with
  | jumps | writesC | writesI | writesD | clearsV | compares | testsBits | writesA | writesX | writesY | adds
  | shiftsA | pullsA | pullsP => rfl
  | stores _ _ hm | counts _ _ _ hm => exact absurd (mem_of_covered hm) hstore
  | breaks => exact absurd (by decide) hstore
  | shiftsMemory _ _ _ hm => exact hacc (hshift (mem_of_covered hm))
  | movesSp _ _ _ hm =>
    have hm' : m ∈ [.rts, .txs] ∨ m ∈ storingMnemonics := by
      revert hm; cases m <;> decide
    simpa [hstore] using hm'.imp_left fun hm => hsp (by simpa using hm)

/-- Settles O57: the memory is the same data, so every location reads as before. -/
theorem otherInstructionsKeepMemory : Obligations.OtherInstructionsKeepMemory := by
  intro i s t h hstore hshift
  have hmem : t.mem = s.mem := exec_keepsMem h hstore hshift
  exact ⟨fun a => by simp [State.byteAt, hmem], hmem⟩

/-! ### What a step can do to memory (R50, R57) -/

/-- What every operation that writes memory keeps: the parameters, the canonical form of memory, and what a location
that is not writable holds. -/
structure KeepsMemoryRules (s t : State) : Prop where
  cfg : t.cfg = s.cfg
  canonical : s.Inv → t.Inv
  readOnly : ∀ a, s.isWritable a = false → t.byteAt a = s.byteAt a

theorem KeepsMemoryRules.of_mem_eq {s t : State} (hcfg : t.cfg = s.cfg) (hmem : t.mem = s.mem) :
    KeepsMemoryRules s t :=
  ⟨hcfg, fun h => by simpa [State.Inv, hmem] using h, fun a _ => by simp [State.byteAt, hmem]⟩

theorem KeepsMemoryRules.trans {s t u : State} (hst : KeepsMemoryRules s t) (htu : KeepsMemoryRules t u) :
    KeepsMemoryRules s u where
  cfg := htu.cfg.trans hst.cfg
  canonical h := htu.canonical (hst.canonical h)
  readOnly a ha := by
    have ha' : t.isWritable a = false := by simpa [State.isWritable, hst.cfg] using ha
    exact (htu.readOnly a ha').trans (hst.readOnly a ha)

/-- What follows a write of memory and changes registers only keeps the rules with it. -/
theorem KeepsMemoryRules.then_registers {s t u : State} (h : KeepsMemoryRules s t) (hcfg : u.cfg = t.cfg)
    (hmem : u.mem = t.mem) : KeepsMemoryRules s u :=
  h.trans (.of_mem_eq hcfg hmem)

section
variable {s t : State}

/-- A write keeps the rules: it lists an address of the address space, and only where it is writable. -/
theorem store_keepsRules {addr : Word} {v : Byte} (h : store addr v s = .ok t) : KeepsMemoryRules s t := by
  obtain ⟨hio, -⟩ := store_ok.1 h
  obtain ⟨m, hstore, hbyte, hwf⟩ := store_spec v hio
  obtain rfl : s.withMem m = t := Except.ok.inj (hstore.symm.trans h)
  refine ⟨rfl, hwf, fun a ha => ?_⟩
  rw [hbyte a]
  split
  · next haddr => subst haddr; simp [storedByte, ha]
  · rfl

theorem push_keepsRules {v : Byte} (h : push v s = .ok t) : KeepsMemoryRules s t := by
  obtain ⟨u, hu, rfl⟩ := push_ok.1 h
  exact (store_keepsRules hu).then_registers rfl rfl

theorem pushWord_keepsRules {w : Word} (h : pushWord w s = .ok t) : KeepsMemoryRules s t := by
  obtain ⟨u, hu, ht⟩ := pushWord_ok.1 h
  exact (push_keepsRules hu).trans (push_keepsRules ht)

theorem enterHandler_keepsRules {ret : Word} {status : Byte} {vector : Word}
    (h : enterHandler ret status vector s = .ok t) : KeepsMemoryRules s t := by
  obtain ⟨u, w, handler, hu, hw, -, rfl⟩ := enterHandler_ok.1 h
  exact ((pushWord_keepsRules hu).trans (push_keepsRules hw)).then_registers rfl rfl

theorem storeA_keepsRules {mode : MemMode} (h : storeA mode s = .ok t) : KeepsMemoryRules s t := by
  obtain ⟨_, _, -, hu, rfl⟩ := storeA_ok.1 h
  exact (store_keepsRules hu).then_registers rfl rfl

theorem storeX_keepsRules {mode : MemMode} (h : storeX mode s = .ok t) : KeepsMemoryRules s t := by
  obtain ⟨_, _, -, hu, rfl⟩ := storeX_ok.1 h
  exact (store_keepsRules hu).then_registers rfl rfl

theorem storeY_keepsRules {mode : MemMode} (h : storeY mode s = .ok t) : KeepsMemoryRules s t := by
  obtain ⟨_, _, -, hu, rfl⟩ := storeY_ok.1 h
  exact (store_keepsRules hu).then_registers rfl rfl

theorem modifyMemory_keepsRules {f : Byte → Bool → Shifted} {mode : MemMode} (h : modifyMemory f mode s = .ok t) :
    KeepsMemoryRules s t := by
  obtain ⟨_, v, _, -, -, hu, rfl⟩ := modifyMemory_ok.1 h
  have hflags : KeepsMemoryRules s (s.withP (setNZC s.p (f v s.p.c).value (f v s.p.c).carry)) := .of_mem_eq rfl rfl
  exact (hflags.trans (store_keepsRules hu)).then_registers rfl rfl

theorem pushA_keepsRules (h : pushA s = .ok t) : KeepsMemoryRules s t := by
  obtain ⟨_, hu, rfl⟩ := pushA_ok.1 h
  exact (push_keepsRules hu).then_registers rfl rfl

theorem pushStatus_keepsRules (h : pushStatus s = .ok t) : KeepsMemoryRules s t := by
  obtain ⟨_, hu, rfl⟩ := pushStatus_ok.1 h
  exact (push_keepsRules hu).then_registers rfl rfl

theorem jumpSubroutine_keepsRules {lo8 hi8 : Byte} (h : jumpSubroutine lo8 hi8 s = .ok t) : KeepsMemoryRules s t := by
  obtain ⟨_, hu, rfl⟩ := jumpSubroutine_ok.1 h
  exact (pushWord_keepsRules hu).then_registers rfl rfl

theorem forceBreak_keepsRules (h : forceBreak s = .ok t) : KeepsMemoryRules s t := by
  have hflags : KeepsMemoryRules s (s.withP (breakStatus s.cfg.bModel s.p)) := .of_mem_eq rfl rfl
  exact hflags.trans (enterHandler_keepsRules h)

/-- An instruction that writes no memory keeps the rules with it. -/
theorem exec_keepsRules_of_keepsMem {i : Instr} (h : exec i s = .next t) (hmem : t.mem = s.mem) :
    KeepsMemoryRules s t := by
  obtain ⟨-, -, -, -, -, -, -, hcfg, -, -⟩ := registersChangeOnlyWhereListed i s t h
  exact .of_mem_eq hcfg hmem

/-- Every instruction keeps the rules of memory: those that write it do so by stores and pushes alone. -/
theorem exec_keepsRules {i : Instr} (h : exec i s = .next t) : KeepsMemoryRules s t := by
  have hanswer := h
  rw [exec_eq_meaning, finish_next] at hanswer
  cases i with
  | staZp | staZpX | staAbs | staAbsX | staAbsY | staIndX | staIndY => exact storeA_keepsRules hanswer
  | stxZp | stxZpY | stxAbs => exact storeX_keepsRules hanswer
  | styZp | styZpX | styAbs => exact storeY_keepsRules hanswer
  | lsrZp | lsrZpX | lsrAbs | lsrAbsX | aslZp | aslZpX | aslAbs | aslAbsX | rolZp | rolZpX | rolAbs | rolAbsX
  | rorZp | rorZpX | rorAbs | rorAbsX | incZp | incZpX | incAbs | incAbsX | decZp | decZpX | decAbs | decAbsX =>
    exact modifyMemory_keepsRules hanswer
  | pha => exact pushA_keepsRules hanswer
  | php => exact pushStatus_keepsRules hanswer
  | jsr => exact jumpSubroutine_keepsRules hanswer
  | brk => exact forceBreak_keepsRules hanswer
  | lsrAcc | aslAcc | rolAcc | rorAcc =>
    exact exec_keepsRules_of_keepsMem h (exec_keepsMem_of_accumulator h rfl)
  | _ =>
    exact exec_keepsRules_of_keepsMem h
      (exec_keepsMem h (by simp [Instr.mnemonic, storingMnemonics]) (by simp [Instr.mnemonic]))

theorem runInstruction_keepsRules (h : runInstruction s = .next t) : KeepsMemoryRules s t := by
  obtain ⟨i, u, -, hu, rfl⟩ := runInstruction_next.1 h
  exact (exec_keepsRules hu).then_registers rfl rfl

theorem takeReset_keepsRules (h : takeReset s = .ok t) : KeepsMemoryRules s t := by
  obtain ⟨u, hu, ht⟩ := bind_ok.1 h
  obtain ⟨-, -, rfl⟩ := enterReset_ok.1 hu
  cases ht
  exact .of_mem_eq rfl rfl

theorem takeNmi_keepsRules (h : takeNmi s = .ok t) : KeepsMemoryRules s t := by
  obtain ⟨u, hu, ht⟩ := bind_ok.1 h
  cases ht
  have hlatch : KeepsMemoryRules s { s with nmiPending := false } := .of_mem_eq rfl rfl
  exact (hlatch.trans (enterHandler_keepsRules hu)).then_registers rfl rfl

theorem takeIrq_keepsRules (h : takeIrq s = .ok t) : KeepsMemoryRules s t := by
  obtain ⟨u, hu, ht⟩ := bind_ok.1 h
  cases ht
  exact (enterHandler_keepsRules hu).then_registers rfl rfl

theorem takeEvent_keepsRules {e : Event} (h : takeEvent e s = .ok t) : KeepsMemoryRules s t := by
  cases e with
  | reset => exact takeReset_keepsRules h
  | nmi => exact takeNmi_keepsRules h
  | irq => exact takeIrq_keepsRules h

/-- Every step, instruction or event, keeps the rules of memory: the boundary's inputs are no part of it. -/
theorem step_keepsRules (h : step s = .next t) : KeepsMemoryRules s t := by
  have hsample : KeepsMemoryRules s (sample s) := .of_mem_eq (sample_cfg s) (sample_mem s)
  rcases step_next.1 h with ⟨e, -, he⟩ | ⟨-, hi⟩
  · exact hsample.trans (takeEvent_keepsRules he)
  · exact hsample.trans (runInstruction_keepsRules hi)

end

/-- Settles O51: canonical memory is one of the rules that every step keeps. -/
theorem stepKeepsMemoryCanonical : Obligations.StepKeepsMemoryCanonical :=
  fun _ _ hinv h => (step_keepsRules h).canonical hinv

/-- Settles O53: so is what a location holds that is not writable. -/
theorem readOnlyMemoryNeverChanges : Obligations.ReadOnlyMemoryNeverChanges :=
  fun _ _ a h ha => (step_keepsRules h).readOnly a ha

/-! ### The start of a run (R50, R62) -/

/-- Settles O52: RESET leaves the image as it was placed, and memory made of cells is canonical. -/
theorem startMemoryIsCanonical : Obligations.StartMemoryIsCanonical := by
  refine ⟨Memory.wf_nil, fun cfg cells schedule s h => ?_⟩
  obtain ⟨-, -, rfl⟩ := enterReset_ok.1 h
  exact Memory.wf_ofCells cells

end Sys2Proof.Machine

/-! The statements of 20_memory.md, second part: read-modify-write of a location, and the refusal of every access that
meets a device. -/

namespace Sys2Proof.Machine

/-! ### The new byte and the bit that leaves (R200 to R203) -/

section
variable {m r : Byte} {k c : Bool}

theorem getLsbD_eq_decide_toNat (v : Byte) (j : Nat) : v.getLsbD j = decide (v.toNat / 2 ^ j % 2 = 1) := by
  rw [BitVec.getLsbD, Nat.testBit_eq_decide_div_mod_eq]

theorem ofNat_eq_of_toNat {n : Nat} (h : r.toNat = n % 256) : BitVec.ofNat 8 n = r :=
  BitVec.eq_of_toNat_eq (by rw [BitVec.toNat_ofNat, h])

theorem shiftRight_eq (hr : r.toNat = m.toNat / 2) (hc : c = m.getLsbD 0) : shiftRight m k = ⟨r, c⟩ := by
  have hm := m.isLt
  have hvalue : BitVec.ofNat 8 (m.toNat / 2) = r := ofNat_eq_of_toNat (by omega)
  rw [shiftRight, hvalue, hc]

theorem shiftLeft_eq (hr : r.toNat = m.toNat * 2 % 256) (hc : c = m.getLsbD 7) : shiftLeft m k = ⟨r, c⟩ := by
  have hvalue : BitVec.ofNat 8 (m.toNat * 2) = r := ofNat_eq_of_toNat hr
  rw [shiftLeft, hvalue, hc]

/-- The nine bits of byte and carry, moved left: their highest is bit 7 of the byte. -/
theorem rotateLeft_eq (hr : r.toNat = (m.toNat * 2 + k.toNat) % 256) (hc : c = m.getLsbD 7) :
    rotateLeft m k = ⟨r, c⟩ := by
  have hm := m.isLt
  have hk := k.toNat_le
  have hvalue : BitVec.ofNat 8 (m.toNat * 2 + k.toNat) = r := ofNat_eq_of_toNat hr
  have hcarry : decide (m.toNat * 2 + k.toNat > 255) = m.getLsbD 7 := by
    rw [getLsbD_eq_decide_toNat, decide_eq_decide]
    omega
  rw [rotateLeft, hvalue, hcarry, hc]

/-- The nine bits of carry and byte, moved right: their lowest is bit 0 of the byte. -/
theorem rotateRight_eq (hr : r.toNat = (m.toNat + 256 * k.toNat) / 2) (hc : c = m.getLsbD 0) :
    rotateRight m k = ⟨r, c⟩ := by
  have hm := m.isLt
  have hk := k.toNat_le
  have hvalue : BitVec.ofNat 8 ((m.toNat + 256 * k.toNat) / 2) = r := ofNat_eq_of_toNat (by omega)
  have hcarry : decide ((m.toNat + 256 * k.toNat) % 2 = 1) = m.getLsbD 0 := by
    rw [getLsbD_eq_decide_toNat, decide_eq_decide]
    omega
  rw [rotateRight, hvalue, hcarry, hc]

theorem increment_eq (hr : r.toNat = (m.toNat + 1) % 256) (hc : c = k) : (⟨m + 1, k⟩ : Shifted) = ⟨r, c⟩ := by
  have hvalue : m + 1 = r := BitVec.eq_of_toNat_eq (by rw [BitVec.toNat_add, hr]; rfl)
  rw [hvalue, hc]

theorem decrement_eq (hr : r.toNat = (m.toNat + 255) % 256) (hc : c = k) : (⟨m - 1, k⟩ : Shifted) = ⟨r, c⟩ := by
  have hvalue : m - 1 = r := by bv_omega
  rw [hvalue, hc]

end

/-! ### Read-modify-write (R58, R200 to R205) -/

/-- A read-modify-write at an address that is no device's: N, Z, C and PC, the location where it is writable, nothing
else. -/
theorem modifyMemory_spec {f : Byte → Bool → Shifted} {mode : MemMode} {s : State} {a : Word} {r : Byte} {c : Bool}
    (hea : effectiveAddress mode s = .ok a) (hio : s.isIo a = false) (hf : f (s.byteAt a) s.p.c = ⟨r, c⟩) :
    ∃ m, modifyMemory f mode s = .ok { s with
        p := setNZC s.p r c, mem := m, pc := s.pc + BitVec.ofNat 16 mode.length } ∧
      (s.withMem m).byteAt a = storedByte s a r ∧ sameMemoryOutside [a] s (s.withMem m) := by
  obtain ⟨m, hstore, hbyte, -⟩ := store_spec r (s := s.withP (setNZC s.p r c)) hio
  have hbyte' : ∀ b, (s.withMem m).byteAt b = if b = a then storedByte s a r else s.byteAt b := hbyte
  refine ⟨m, modifyMemory_ok.2 ⟨a, _, (s.withP (setNZC s.p r c)).withMem m, hea, load_eq hio, ?_, rfl⟩, ?_, fun b hb => ?_⟩
  · rw [hf]
    exact hstore
  · rw [hbyte', if_pos rfl]
  · rw [hbyte', if_neg (by simpa using hb)]

/-- An instruction on memory whose meaning is a read-modify-write that computes `r` and the carry `c`. -/
theorem exec_of_modifyMemory {f : Byte → Bool → Shifted} {i : Instr} {mode : MemMode} {s : State} {a : Word} {r : Byte}
    {c : Bool} (hexec : exec i s = finish (modifyMemory f mode s)) (ho : i.operand = .memory mode)
    (hea : effectiveAddress mode s = .ok a) (hio : s.isIo a = false) (hf : f (s.byteAt a) s.p.c = ⟨r, c⟩) :
    ∃ t, exec i s = .next t ∧
      t = { s with p := { s.p with n := r.getLsbD 7, z := r == 0, c := c }, mem := t.mem,
                   pc := s.pc + BitVec.ofNat 16 i.length } ∧
      t.byteAt a = storedByte s a r ∧ sameMemoryOutside [a] s t := by
  obtain ⟨m, hmodify, hbyte, hother⟩ := modifyMemory_spec hea hio hf
  have hlength : i.length = mode.length := by rw [Instr.length, ho]; rfl
  rw [hexec, hmodify, hlength]
  exact ⟨_, rfl, rfl, hbyte, hother⟩

/-- Settles O45: each of the six is a read-modify-write, and computes the byte and the carry that the statement names. -/
theorem readModifyWriteOfMemory : Obligations.ReadModifyWriteOfMemory := by
  rintro i mode s a m r c ho hea hio rfl
    (⟨hm, hr, hc⟩ | ⟨hm, hr, hc⟩ | ⟨hm, hr, hc⟩ | ⟨hm, hr, hc⟩ | ⟨hm, hr, hc⟩ | ⟨hm, hr, hc⟩)
  · exact exec_of_modifyMemory (exec_lsr (target := .memory mode) hm ho) ho hea hio (shiftRight_eq hr hc)
  · exact exec_of_modifyMemory (exec_asl (target := .memory mode) hm ho) ho hea hio (shiftLeft_eq hr hc)
  · exact exec_of_modifyMemory (exec_rol (target := .memory mode) hm ho) ho hea hio (rotateLeft_eq hr hc)
  · exact exec_of_modifyMemory (exec_ror (target := .memory mode) hm ho) ho hea hio (rotateRight_eq hr hc)
  · exact exec_of_modifyMemory (exec_inc hm ho) ho hea hio (increment_eq hr hc)
  · exact exec_of_modifyMemory (exec_dec hm ho) ho hea hio (decrement_eq hr hc)

/-! ### What an instruction with an operand does first (R59, R100) -/

/-- The instructions that read an operand byte read it before all else. -/
theorem exec_reads_operand_first {i : Instr} {m : MemMode} {s : State} (ho : i.operand = .memory m)
    (hm : i.mnemonic ∈ ([.lda, .ldx, .ldy, .adc, .sbc, .and, .ora, .eor, .cmp, .cpx, .cpy, .bit] : List Mnemonic)) :
    ∃ next, exec i s = finish (memoryByte m s >>= next) := by
  have hsrc : i.operand = (Source.memory m).operand := ho
  simp only [List.mem_cons, List.not_mem_nil, or_false] at hm
  rcases hm with hm | hm | hm | hm | hm | hm | hm | hm | hm | hm | hm | hm
  · exact ⟨_, exec_lda hm hsrc⟩
  · exact ⟨_, exec_ldx hm hsrc⟩
  · exact ⟨_, exec_ldy hm hsrc⟩
  · exact ⟨_, exec_adc hm hsrc⟩
  · exact ⟨_, exec_sbc hm hsrc⟩
  · exact ⟨_, exec_and hm hsrc⟩
  · exact ⟨_, exec_ora hm hsrc⟩
  · exact ⟨_, exec_eor hm hsrc⟩
  · exact ⟨_, exec_cmp hm hsrc⟩
  · exact ⟨_, exec_cpx hm hsrc⟩
  · exact ⟨_, exec_cpy hm hsrc⟩
  · exact ⟨_, exec_bit hm ho⟩

/-- The stores form their address, then write to it. -/
theorem exec_stores_at_address {i : Instr} {m : MemMode} {s : State} (ho : i.operand = .memory m)
    (hm : i.mnemonic ∈ ([.sta, .stx, .sty] : List Mnemonic)) :
    ∃ v next, exec i s = finish (effectiveAddress m s >>= fun a => store a v s >>= next) := by
  simp only [List.mem_cons, List.not_mem_nil, or_false] at hm
  rcases hm with hm | hm | hm
  · exact ⟨_, _, exec_sta hm ho⟩
  · exact ⟨_, _, exec_stx hm ho⟩
  · exact ⟨_, _, exec_sty hm ho⟩

/-- On memory the shifts, the rotates, INC and DEC are read-modify-writes. -/
theorem exec_modifies_memory {i : Instr} {m : MemMode} {s : State} (ho : i.operand = .memory m)
    (hm : i.mnemonic ∈ ([.lsr, .asl, .rol, .ror, .inc, .dec] : List Mnemonic)) :
    ∃ f, exec i s = finish (modifyMemory f m s) := by
  have htarget : i.operand = (Target.memory m).operand := ho
  simp only [List.mem_cons, List.not_mem_nil, or_false] at hm
  rcases hm with hm | hm | hm | hm | hm | hm
  · exact ⟨_, exec_lsr hm htarget⟩
  · exact ⟨_, exec_asl hm htarget⟩
  · exact ⟨_, exec_rol hm htarget⟩
  · exact ⟨_, exec_ror hm htarget⟩
  · exact ⟨_, exec_inc hm ho⟩
  · exact ⟨_, exec_dec hm ho⟩

/-! ### A refused access stops the instruction (R56, R57) -/

/-- The refusal of the operand byte; an immediate operand is never refused. -/
theorem exec_refused_of_operand {i : Instr} {src : Source} {s : State} {e : Refusal} (ho : i.operand = src.operand)
    (hm : i.mnemonic ∈ ([.lda, .ldx, .ldy, .adc, .sbc, .and, .ora, .eor, .cmp, .cpx, .cpy, .bit] : List Mnemonic))
    (he : operandByte src s = .error e) : exec i s = .refused e := by
  cases src with
  | immediate v => cases he
  | memory m =>
    obtain ⟨next, hexec⟩ := exec_reads_operand_first (s := s) ho hm
    have hread : memoryByte m s = .error e := he
    rw [hexec, hread]
    rfl

theorem exec_refused_of_store {i : Instr} {m : MemMode} {s : State} {a : Word} (ho : i.operand = .memory m)
    (hea : effectiveAddress m s = .ok a) (hio : s.isIo a = true)
    (hm : i.mnemonic ∈ ([.sta, .stx, .sty] : List Mnemonic)) : exec i s = .refused (.ioWrite a) := by
  obtain ⟨v, next, hexec⟩ := exec_stores_at_address (s := s) ho hm
  rw [hexec, hea, ok_bind, store_of_isIo hio]
  rfl

/-- A read-modify-write reads its location first, so it is the read that is refused. -/
theorem exec_refused_of_modify {i : Instr} {m : MemMode} {s : State} {a : Word} (ho : i.operand = .memory m)
    (hea : effectiveAddress m s = .ok a) (hio : s.isIo a = true)
    (hm : i.mnemonic ∈ ([.lsr, .asl, .rol, .ror, .inc, .dec] : List Mnemonic)) : exec i s = .refused (.ioRead a) := by
  obtain ⟨f, hexec⟩ := exec_modifies_memory (s := s) ho hm
  rw [hexec, modifyMemory, hea, ok_bind, load_of_isIo hio]
  rfl

/-- The refusal met while the address is formed, of the stores and the read-modify-writes. -/
theorem exec_refused_of_address {i : Instr} {m : MemMode} {s : State} {e : Refusal} (ho : i.operand = .memory m)
    (hea : effectiveAddress m s = .error e)
    (hm : i.mnemonic ∈ ([.sta, .stx, .sty, .lsr, .asl, .rol, .ror, .inc, .dec] : List Mnemonic)) :
    exec i s = .refused e := by
  have hm' : i.mnemonic ∈ ([.sta, .stx, .sty] ++ [.lsr, .asl, .rol, .ror, .inc, .dec] : List Mnemonic) := hm
  rcases List.mem_append.1 hm' with hstore | hmodify
  · obtain ⟨v, next, hexec⟩ := exec_stores_at_address (s := s) ho hstore
    rw [hexec, hea]
    rfl
  · obtain ⟨f, hexec⟩ := exec_modifies_memory (s := s) ho hmodify
    rw [hexec, modifyMemory, hea]
    rfl

/-! ### The addresses that an answer shows to be no device's -/

@[simp] theorem accessible_nil (s : State) : accessible s [] := by simp [accessible]

@[simp] theorem accessible_cons (s : State) (a : Word) (l : List Word) :
    accessible s (a :: l) ↔ s.isIo a = false ∧ accessible s l := by
  simp [accessible]

/-- Which addresses are devices' is a parameter. -/
theorem isIo_eq_of_cfg {s t : State} (h : t.cfg = s.cfg) (a : Word) : t.isIo a = s.isIo a := by
  simp [State.isIo, h]

section
variable {s t : State}

/-- A push answers where its place is no device's; SP moves down and the devices stay where they are. -/
theorem push_reaches {v : Byte} (h : push v s = .ok t) :
    s.isIo (stackAddr s.sp) = false ∧ t.sp = s.sp - 1 ∧ t.cfg = s.cfg := by
  have hcfg := (push_keepsRules h).cfg
  obtain ⟨u, hu, rfl⟩ := push_ok.1 h
  exact ⟨(store_ok.1 hu).1, rfl, hcfg⟩

theorem pushWord_reaches {w : Word} (h : pushWord w s = .ok t) :
    accessible s [pushSlot s 0, pushSlot s 1] ∧ t.sp = s.sp - 1 - 1 ∧ t.cfg = s.cfg := by
  obtain ⟨u, hhigh, hlow⟩ := pushWord_ok.1 h
  obtain ⟨hio0, hsp0, hcfg0⟩ := push_reaches hhigh
  obtain ⟨hio1, hsp1, hcfg1⟩ := push_reaches hlow
  rw [isIo_eq_of_cfg hcfg0, hsp0] at hio1
  refine ⟨?_, by rw [hsp1, hsp0], hcfg1.trans hcfg0⟩
  simpa [pushSlot_zero, pushSlot_one] using ⟨hio0, hio1⟩

theorem enterHandler_reaches {ret : Word} {status : Byte} {vector : Word} (h : enterHandler ret status vector s = .ok t) :
    accessible s [pushSlot s 0, pushSlot s 1, pushSlot s 2, vector, vector + 1] := by
  obtain ⟨u, w, handler, hword, hstatus, hvector, -⟩ := enterHandler_ok.1 h
  obtain ⟨hacc, hsp, hcfg⟩ := pushWord_reaches hword
  obtain ⟨hio2, -, hcfg2⟩ := push_reaches hstatus
  obtain ⟨hlow, hhigh, -⟩ := load16_ok.1 hvector
  rw [isIo_eq_of_cfg hcfg, hsp, ← pushSlot_two] at hio2
  rw [State.withP_isIo, isIo_eq_of_cfg (hcfg2.trans hcfg)] at hlow hhigh
  simp only [accessible_cons, accessible_nil, and_true] at hacc ⊢
  exact ⟨hacc.1, hacc.2, hio2, hlow, hhigh⟩

theorem pullWord_reaches {w : Word} (h : pullWord s = .ok (w, t)) : accessible s [pullSlot s 1, pullSlot s 2] := by
  obtain ⟨_, _, u, hlow, hhigh, -⟩ := pullWord_ok.1 h
  obtain ⟨hio1, -, rfl⟩ := pull_ok.1 hlow
  obtain ⟨hio2, -, -⟩ := pull_ok.1 hhigh
  simpa [pullSlot_one, pullSlot_two] using ⟨hio1, hio2⟩

theorem returnFromHandler_reaches (h : returnFromHandler s = .ok t) :
    accessible s [pullSlot s 1, pullSlot s 2, pullSlot s 3] := by
  obtain ⟨v, u, target, w, hstatus, hword, -⟩ := returnFromHandler_ok.1 h
  obtain ⟨hio1, -, rfl⟩ := pull_ok.1 hstatus
  have hrest := pullWord_reaches hword
  simp only [accessible_cons, accessible_nil, and_true, pullSlot_one, pullSlot_two, pullSlot_three] at hrest ⊢
  exact ⟨hio1, hrest⟩

/-! ### The stack, the vector of Break, the pointer of JMP (R56, R57) -/

/-- A meaning that needs what does not hold is refused. -/
theorem refused_of_not_reached {x : Result State} {p : Prop} (hreach : ∀ t, x = .ok t → p) (hp : ¬ p) :
    ∃ e, finish x = .refused e := by
  cases x with
  | error e => exact ⟨e, rfl⟩
  | ok t => exact absurd (hreach t rfl) hp

theorem pushA_reaches (h : pushA s = .ok t) : accessible s [pushSlot s 0] := by
  obtain ⟨_, hu, -⟩ := pushA_ok.1 h
  simpa [pushSlot_zero] using (push_reaches hu).1

theorem pushStatus_reaches (h : pushStatus s = .ok t) : accessible s [pushSlot s 0] := by
  obtain ⟨_, hu, -⟩ := pushStatus_ok.1 h
  simpa [pushSlot_zero] using (push_reaches hu).1

theorem pullA_reaches (h : pullA s = .ok t) : accessible s [pullSlot s 1] := by
  obtain ⟨_, _, hu, -⟩ := pullA_ok.1 h
  simpa [pullSlot_one] using (pull_ok.1 hu).1

theorem pullStatus_reaches (h : pullStatus s = .ok t) : accessible s [pullSlot s 1] := by
  obtain ⟨_, _, hu, -⟩ := pullStatus_ok.1 h
  simpa [pullSlot_one] using (pull_ok.1 hu).1

theorem jumpSubroutine_reaches {lo8 hi8 : Byte} (h : jumpSubroutine lo8 hi8 s = .ok t) :
    accessible s [pushSlot s 0, pushSlot s 1] := by
  obtain ⟨_, hu, -⟩ := jumpSubroutine_ok.1 h
  exact (pushWord_reaches hu).1

theorem returnSubroutine_reaches (h : returnSubroutine s = .ok t) : accessible s [pullSlot s 1, pullSlot s 2] := by
  obtain ⟨_, _, hu, -⟩ := returnSubroutine_ok.1 h
  exact pullWord_reaches hu

/-- Break sets B before its pushes, which moves none of its addresses. -/
theorem forceBreak_reaches (h : forceBreak s = .ok t) :
    accessible s [pushSlot s 0, pushSlot s 1, pushSlot s 2, 0xFFFE, 0xFFFF] :=
  enterHandler_reaches (s := s.withP (breakStatus s.cfg.bModel s.p)) h

theorem jumpIndirect_reaches {lo8 hi8 : Byte} (h : jumpIndirect lo8 hi8 s = .ok t) :
    accessible s [word lo8 hi8, pointerHighAddr s.cfg.jmpIndPageWrap lo8 hi8] := by
  obtain ⟨_, hu, -⟩ := jumpIndirect_ok.1 h
  obtain ⟨hlow, hhigh, -⟩ := indirectTarget_ok.1 hu
  simpa using ⟨hlow, hhigh⟩

end

/-- Settles O46: a refused operand, address or store stops the instruction; an instruction of the stack, or a jump, that
answers shows its addresses to be no device's. -/
theorem deviceAccessIsRefused : Obligations.DeviceAccessIsRefused := by
  refine ⟨fun i src s e ho hm he => exec_refused_of_operand ho hm he,
    fun i m s a ho hea hio => ⟨exec_refused_of_store ho hea hio, exec_refused_of_modify ho hea hio⟩,
    fun i m s e ho hea hm => exec_refused_of_address ho hea hm,
    fun s lo hi => ⟨fun h => ⟨?pha, ?php⟩, fun h => ⟨?pla, ?plp⟩, ?jsr, ?rts, ?brk, ?rti, ?jmpInd⟩⟩
  case pha => exact refused_of_not_reached (fun _ => pushA_reaches) h
  case php => exact refused_of_not_reached (fun _ => pushStatus_reaches) h
  case pla => exact refused_of_not_reached (fun _ => pullA_reaches) h
  case plp => exact refused_of_not_reached (fun _ => pullStatus_reaches) h
  case jsr => exact refused_of_not_reached fun _ => jumpSubroutine_reaches
  case rts => exact refused_of_not_reached fun _ => returnSubroutine_reaches
  case brk => exact refused_of_not_reached fun _ => forceBreak_reaches
  case rti => exact refused_of_not_reached fun _ => returnFromHandler_reaches
  case jmpInd => exact refused_of_not_reached fun _ => jumpIndirect_reaches

end Sys2Proof.Machine

/-! The statements of 20_memory.md, third part: what stops a machine without devices. -/

namespace Sys2Proof.Machine

/-! ### Without devices every access answers (R56, R57) -/

theorem isIo_of_no_region {s : State} (h : s.cfg.ioRegion = []) (a : Word) : s.isIo a = false := by
  simp [State.isIo, h]

section
variable {s : State} (hio : ∀ a, s.isIo a = false)
include hio

theorem accessible_of_no_device (l : List Word) : accessible s l := fun a _ => hio a

theorem zeroPagePointer_answers (z : Byte) : ∃ w, zeroPagePointer z s = .ok w :=
  ⟨_, zeroPagePointer_ok.2 ⟨hio _, hio _, rfl⟩⟩

theorem effectiveAddress_answers (m : MemMode) : ∃ a, effectiveAddress m s = .ok a := by
  cases m with
  | zeroPage | zeroPageX | zeroPageY | absolute | absoluteX | absoluteY => exact ⟨_, rfl⟩
  | indirectX z => exact zeroPagePointer_answers hio _
  | indirectY z =>
    obtain ⟨w, hw⟩ := zeroPagePointer_answers hio z
    exact ⟨_, bind_ok.2 ⟨w, hw, rfl⟩⟩

theorem operandByte_answers (src : Source) : ∃ v, operandByte src s = .ok v := by
  cases src with
  | immediate v => exact ⟨v, rfl⟩
  | memory m =>
    obtain ⟨a, ha⟩ := effectiveAddress_answers hio m
    exact ⟨_, memoryByte_ok.2 ⟨a, ha, hio a, rfl⟩⟩

theorem store_answers (a : Word) (v : Byte) : ∃ t, store a v s = .ok t :=
  ⟨_, store_ok.2 ⟨hio a, rfl⟩⟩

theorem push_answers (v : Byte) : ∃ t, push v s = .ok t ∧ ∀ a, t.isIo a = false := by
  obtain ⟨m, hpush, -, -⟩ := push_spec v (hio (stackAddr s.sp))
  exact ⟨_, hpush, hio⟩

theorem pushWord_answers (w : Word) : ∃ t, pushWord w s = .ok t := by
  obtain ⟨u, hhigh, hu⟩ := push_answers hio (hiByte w)
  obtain ⟨t, hlow, -⟩ := push_answers hu (loByte w)
  exact ⟨t, pushWord_ok.2 ⟨u, hhigh, hlow⟩⟩

theorem pullWord_answers : ∃ w t, pullWord s = .ok (w, t) :=
  ⟨_, _, pullWord_ok.2 ⟨_, _, _, pull_eq (hio _), pull_eq (hio _), rfl⟩⟩

/-- The entry sequence answers; its vector lies above the stack page. -/
theorem enterHandler_answers (ret : Word) (status : Byte) {vector : Word} (hv : 512 ≤ vector.toNat)
    (hv' : 512 ≤ (vector + 1).toNat) : ∃ t, enterHandler ret status vector s = .ok t := by
  obtain ⟨m, henter, -⟩ := enterHandler_spec ret status (accessible_of_no_device hio _) hv hv'
  exact ⟨_, henter⟩

/-! ### Every meaning answers -/

theorem loadA_answers (src : Source) : ∃ t, loadA src s = .ok t := by
  obtain ⟨v, hv⟩ := operandByte_answers hio src
  exact ⟨_, loadA_ok.2 ⟨v, hv, rfl⟩⟩

theorem loadX_answers (src : Source) : ∃ t, loadX src s = .ok t := by
  obtain ⟨v, hv⟩ := operandByte_answers hio src
  exact ⟨_, loadX_ok.2 ⟨v, hv, rfl⟩⟩

theorem loadY_answers (src : Source) : ∃ t, loadY src s = .ok t := by
  obtain ⟨v, hv⟩ := operandByte_answers hio src
  exact ⟨_, loadY_ok.2 ⟨v, hv, rfl⟩⟩

theorem logical_answers (f : Byte → Byte → Byte) (src : Source) : ∃ t, logical f src s = .ok t := by
  obtain ⟨v, hv⟩ := operandByte_answers hio src
  exact ⟨_, logical_ok.2 ⟨v, hv, rfl⟩⟩

theorem compareRegister_answers (r : Byte) (src : Source) : ∃ t, compareRegister r src s = .ok t := by
  obtain ⟨v, hv⟩ := operandByte_answers hio src
  exact ⟨_, compareRegister_ok.2 ⟨v, hv, rfl⟩⟩

theorem bitTest_answers (src : Source) : ∃ t, bitTest src s = .ok t := by
  obtain ⟨v, hv⟩ := operandByte_answers hio src
  exact ⟨_, bitTest_ok.2 ⟨v, hv, rfl⟩⟩

/-- Under `source_formula` no digit is refused (R122, R123). -/
theorem arithmetic_answers (hbcd : s.cfg.invalidBcd = .sourceFormula) (result : State → Byte → Sum) (src : Source) :
    ∃ t, arithmetic result src s = .ok t := by
  obtain ⟨v, hv⟩ := operandByte_answers hio src
  have hdigits : refusesBcd s v = false := by simp [refusesBcd, hbcd]
  exact ⟨_, arithmetic_ok.2 ⟨v, hv, hdigits, rfl⟩⟩

theorem storeA_answers (m : MemMode) : ∃ t, storeA m s = .ok t := by
  obtain ⟨a, ha⟩ := effectiveAddress_answers hio m
  obtain ⟨u, hu⟩ := store_answers hio a s.a
  exact ⟨_, storeA_ok.2 ⟨a, u, ha, hu, rfl⟩⟩

theorem storeX_answers (m : MemMode) : ∃ t, storeX m s = .ok t := by
  obtain ⟨a, ha⟩ := effectiveAddress_answers hio m
  obtain ⟨u, hu⟩ := store_answers hio a s.x
  exact ⟨_, storeX_ok.2 ⟨a, u, ha, hu, rfl⟩⟩

theorem storeY_answers (m : MemMode) : ∃ t, storeY m s = .ok t := by
  obtain ⟨a, ha⟩ := effectiveAddress_answers hio m
  obtain ⟨u, hu⟩ := store_answers hio a s.y
  exact ⟨_, storeY_ok.2 ⟨a, u, ha, hu, rfl⟩⟩

theorem modifyMemory_answers (f : Byte → Bool → Shifted) (m : MemMode) : ∃ t, modifyMemory f m s = .ok t := by
  obtain ⟨a, ha⟩ := effectiveAddress_answers hio m
  obtain ⟨n, hmodify, -⟩ := modifyMemory_spec (f := f) ha (hio a) rfl
  exact ⟨_, hmodify⟩

theorem jumpIndirect_answers (lo8 hi8 : Byte) : ∃ t, jumpIndirect lo8 hi8 s = .ok t :=
  ⟨_, jumpIndirect_ok.2 ⟨_, indirectTarget_ok.2 ⟨hio _, hio _, rfl⟩, rfl⟩⟩

theorem jumpSubroutine_answers (lo8 hi8 : Byte) : ∃ t, jumpSubroutine lo8 hi8 s = .ok t := by
  obtain ⟨u, hu⟩ := pushWord_answers hio (s.pc + 2)
  exact ⟨_, jumpSubroutine_ok.2 ⟨u, hu, rfl⟩⟩

theorem returnSubroutine_answers : ∃ t, returnSubroutine s = .ok t := by
  obtain ⟨w, u, hu⟩ := pullWord_answers hio
  exact ⟨_, returnSubroutine_ok.2 ⟨w, u, hu, rfl⟩⟩

theorem pushA_answers : ∃ t, pushA s = .ok t := by
  obtain ⟨u, hu, -⟩ := push_answers hio s.a
  exact ⟨_, pushA_ok.2 ⟨u, hu, rfl⟩⟩

theorem pushStatus_answers : ∃ t, pushStatus s = .ok t := by
  obtain ⟨u, hu, -⟩ := push_answers hio (pushedStatus s.cfg.bModel s.p)
  exact ⟨_, pushStatus_ok.2 ⟨u, hu, rfl⟩⟩

theorem pullA_answers : ∃ t, pullA s = .ok t :=
  ⟨_, pullA_ok.2 ⟨_, _, pull_eq (hio _), rfl⟩⟩

theorem pullStatus_answers : ∃ t, pullStatus s = .ok t :=
  ⟨_, pullStatus_ok.2 ⟨_, _, pull_eq (hio _), rfl⟩⟩

theorem forceBreak_answers : ∃ t, forceBreak s = .ok t :=
  enterHandler_answers (s := s.withP (breakStatus s.cfg.bModel s.p)) hio _ _ (by decide) (by decide)

theorem returnInterrupt_answers : ∃ t, returnInterrupt s = .ok t := by
  have hpull := pull_eq (hio (stackAddr (s.sp + 1)))
  obtain ⟨w, t, hword⟩ := pullWord_answers (s := (s.withSp (s.sp + 1)).withP
    (pulledStatus s.cfg.bModel s.p (s.byteAt (stackAddr (s.sp + 1))))) hio
  exact ⟨_, returnFromHandler_ok.2 ⟨_, _, w, t, hpull, hword, rfl⟩⟩

/-- Every instruction answers: it is stopped by a device or by an invalid digit, and by nothing else (R222). -/
theorem exec_answers (hbcd : s.cfg.invalidBcd = .sourceFormula) (i : Instr) : ∃ t, exec i s = .next t := by
  simp only [exec_eq_meaning, finish_next]
  cases i with
  | ldaImm | ldaZp | ldaZpX | ldaAbs | ldaAbsX | ldaAbsY | ldaIndX | ldaIndY => exact loadA_answers hio _
  | ldxImm | ldxZp | ldxZpY | ldxAbs | ldxAbsY => exact loadX_answers hio _
  | ldyImm | ldyZp | ldyZpX | ldyAbs | ldyAbsX => exact loadY_answers hio _
  | adcImm | adcZp | adcZpX | adcAbs | adcAbsX | adcAbsY | adcIndX | adcIndY | sbcImm | sbcZp | sbcZpX | sbcAbs
  | sbcAbsX | sbcAbsY | sbcIndX | sbcIndY => exact arithmetic_answers hio hbcd _ _
  | andImm | andZp | andZpX | andAbs | andAbsX | andAbsY | andIndX | andIndY | oraImm | oraZp | oraZpX | oraAbs
  | oraAbsX | oraAbsY | oraIndX | oraIndY | eorImm | eorZp | eorZpX | eorAbs | eorAbsX | eorAbsY | eorIndX
  | eorIndY => exact logical_answers hio _ _
  | cmpImm | cmpZp | cmpZpX | cmpAbs | cmpAbsX | cmpAbsY | cmpIndX | cmpIndY | cpxImm | cpxZp | cpxAbs | cpyImm
  | cpyZp | cpyAbs => exact compareRegister_answers hio _ _
  | bitZp | bitAbs => exact bitTest_answers hio _
  | staZp | staZpX | staAbs | staAbsX | staAbsY | staIndX | staIndY => exact storeA_answers hio _
  | stxZp | stxZpY | stxAbs => exact storeX_answers hio _
  | styZp | styZpX | styAbs => exact storeY_answers hio _
  | lsrZp | lsrZpX | lsrAbs | lsrAbsX | aslZp | aslZpX | aslAbs | aslAbsX | rolZp | rolZpX | rolAbs | rolAbsX
  | rorZp | rorZpX | rorAbs | rorAbsX | incZp | incZpX | incAbs | incAbsX | decZp | decZpX | decAbs | decAbsX =>
    exact modifyMemory_answers hio _ _
  | jmpInd => exact jumpIndirect_answers hio _ _
  | jsr => exact jumpSubroutine_answers hio _ _
  | rts => exact returnSubroutine_answers hio
  | pha => exact pushA_answers hio
  | php => exact pushStatus_answers hio
  | pla => exact pullA_answers hio
  | plp => exact pullStatus_answers hio
  | brk => exact forceBreak_answers hio
  | rti => exact returnInterrupt_answers hio
  | bmi | bpl | bcc | bcs | beq | bne | bvs | bvc | jmpAbs | sec | clc | sei | cli | sed | cld | clv | inx | iny
  | dex | dey | tax | txa | tay | tya | txs | tsx | nop | lsrAcc | aslAcc | rolAcc | rorAcc => exact ⟨_, rfl⟩

/-- Every event answers: RESET reads its vector, an interrupt enters its handler (R229 to R231). -/
theorem takeEvent_answers (e : Event) : ∃ t, takeEvent e s = .ok t := by
  cases e with
  | reset => exact ⟨_, bind_ok.2 ⟨_, enterReset_ok.2 ⟨hio _, hio _, rfl⟩, rfl⟩⟩
  | nmi =>
    obtain ⟨u, hu⟩ := enterHandler_answers (s := { s with nmiPending := false }) hio s.pc (s.p.byteWith false)
      (vector := nmiVector) (by decide) (by decide)
    exact ⟨_, bind_ok.2 ⟨u, hu, rfl⟩⟩
  | irq =>
    obtain ⟨u, hu⟩ := enterHandler_answers hio s.pc (s.p.byteWith false) (vector := breakVector) (by decide) (by decide)
    exact ⟨_, bind_ok.2 ⟨u, hu, rfl⟩⟩

end

/-! ### Without devices what decodes is fetched (R84) -/

/-- The opcode byte alone gives the mnemonic: a row builds the same one from any operand bytes (R85). -/
theorem mnemonic_build {r : OpcodeRow} (hr : r ∈ opcodeMap) (b1 b2 : Byte) :
    (r.build b1 b2).mnemonic = (r.build 0 0).mnemonic := by
  have hrows : opcodeMap.Forall fun r => ∀ b1 b2, (r.build b1 b2).mnemonic = (r.build 0 0).mnemonic := by
    repeat' apply And.intro
    all_goals exact fun _ _ => rfl
  exact List.forall_iff_forall_mem.1 hrows r hr b1 b2

/-- So the check of presence is one of the row. -/
theorem wellFormed_build {r : OpcodeRow} (hr : r ∈ opcodeMap) (cfg : Config) (b1 b2 : Byte) :
    (r.build b1 b2).wellFormed cfg = (r.build 0 0).wellFormed cfg := by
  simp [Instr.wellFormed, mnemonic_build hr b1 b2]

/-- An instruction that a row takes from some bytes is one that it builds. -/
theorem exists_build_of_take {r : OpcodeRow} {bytes rest : List Byte} {i : Instr} (h : r.take bytes = .instr i rest) :
    ∃ b1 b2, i = r.build b1 b2 := by
  unfold OpcodeRow.take at h
  split at h <;> cases h <;> exact ⟨_, _, rfl⟩

/-- Bytes that decode to an instruction of the part begin with an opcode whose row the part has. -/
theorem opcodeRow_of_decodeFor {cfg : Config} {op : Byte} {bytes rest : List Byte} {i : Instr}
    (h : decodeFor cfg (op :: bytes) = .instr i rest) :
    ∃ r, opcodeRow op = some r ∧ (r.build 0 0).wellFormed cfg = true := by
  cases hrow : opcodeRow op with
  | none => simp [decodeFor, decode, hrow] at h
  | some r =>
    refine ⟨r, rfl, ?_⟩
    cases htake : r.take bytes with
    | futureExpansion | truncated => simp [decodeFor, decode, hrow, htake] at h
    | instr j rest' =>
      obtain ⟨b1, b2, rfl⟩ := exists_build_of_take htake
      have hpresent : (r.build b1 b2).wellFormed cfg = true := by
        by_contra habsent
        simp [decodeFor, decode, hrow, htake, habsent] at h
      rwa [wellFormed_build (List.mem_of_find?_eq_some hrow)] at hpresent

section
variable {s : State} (hio : ∀ a, s.isIo a = false)
include hio

theorem fetchOperands_answers (r : OpcodeRow) : ∃ i, fetchOperands r s = .ok i := by
  unfold fetchOperands
  split
  · exact ⟨_, rfl⟩
  · exact ⟨_, bind_ok.2 ⟨_, load_eq (hio _), rfl⟩⟩
  · exact ⟨_, bind_ok.2 ⟨_, load_eq (hio _), bind_ok.2 ⟨_, load_eq (hio _), rfl⟩⟩⟩

theorem fetch_answers {i : Instr} {rest : List Byte} (h : decodedAtPc s = .instr i rest) : ∃ j, fetch s = .ok j := by
  obtain ⟨r, hrow, hpresent⟩ := opcodeRow_of_decodeFor h
  obtain ⟨j, hj⟩ := fetchOperands_answers hio r
  exact ⟨j, by simp only [fetch, load_eq (hio s.pc), ok_bind, hrow, hpresent, if_true, hj]⟩

end

/-- What the bytes at PC decode to is no matter of the boundary's inputs. -/
theorem decodedAtPc_sample (s : State) : decodedAtPc (sample s) = decodedAtPc s := by
  simp [decodedAtPc]

/-- Settles O50: the event that is due answers; else the instruction at PC is fetched, and answers. -/
theorem stepAnswersWithoutDevices : Obligations.StepAnswersWithoutDevices := by
  intro s hregion hbcd h
  have hio : ∀ a, (sample s).isIo a = false := isIo_of_no_region (by rw [sample_cfg, hregion])
  simp only [step_next]
  cases hdue : dueEvent s with
  | some e =>
    obtain ⟨t, ht⟩ := takeEvent_answers hio e
    exact ⟨t, .inl ⟨e, rfl, ht⟩⟩
  | none =>
    obtain ⟨i, rest, hdecode⟩ := h.resolve_left (absurd hdue)
    obtain ⟨j, hfetch⟩ := fetch_answers hio ((decodedAtPc_sample s).trans hdecode)
    obtain ⟨u, hu⟩ := exec_answers hio (by rw [sample_cfg, hbcd]) j
    exact ⟨_, .inr ⟨rfl, runInstruction_next.2 ⟨j, u, hfetch, hu, rfl⟩⟩⟩

end Sys2Proof.Machine

/-! The statements of 30_encoding.md: decoding and encoding undo each other, a step runs what the bytes at PC decode to,
and the two encodings of a zero-page operand agree. -/

namespace Sys2Proof.Laws

/-- Decoding undoes encoding, for every instruction: the laws of the 151 constructors together (R86). -/
theorem decode_encode : ∀ i : Instr, RoundTrip.Statement i
  | .ldaImm v => RoundTrip.ldaImm v | .ldaZp z => RoundTrip.ldaZp z | .ldaZpX z => RoundTrip.ldaZpX z
  | .ldaAbs lo hi => RoundTrip.ldaAbs lo hi | .ldaAbsX lo hi => RoundTrip.ldaAbsX lo hi
  | .ldaAbsY lo hi => RoundTrip.ldaAbsY lo hi | .ldaIndX z => RoundTrip.ldaIndX z | .ldaIndY z => RoundTrip.ldaIndY z
  | .staZp z => RoundTrip.staZp z | .staZpX z => RoundTrip.staZpX z | .staAbs lo hi => RoundTrip.staAbs lo hi
  | .staAbsX lo hi => RoundTrip.staAbsX lo hi | .staAbsY lo hi => RoundTrip.staAbsY lo hi
  | .staIndX z => RoundTrip.staIndX z | .staIndY z => RoundTrip.staIndY z | .adcImm v => RoundTrip.adcImm v
  | .adcZp z => RoundTrip.adcZp z | .adcZpX z => RoundTrip.adcZpX z | .adcAbs lo hi => RoundTrip.adcAbs lo hi
  | .adcAbsX lo hi => RoundTrip.adcAbsX lo hi | .adcAbsY lo hi => RoundTrip.adcAbsY lo hi
  | .adcIndX z => RoundTrip.adcIndX z | .adcIndY z => RoundTrip.adcIndY z | .sbcImm v => RoundTrip.sbcImm v
  | .sbcZp z => RoundTrip.sbcZp z | .sbcZpX z => RoundTrip.sbcZpX z | .sbcAbs lo hi => RoundTrip.sbcAbs lo hi
  | .sbcAbsX lo hi => RoundTrip.sbcAbsX lo hi | .sbcAbsY lo hi => RoundTrip.sbcAbsY lo hi
  | .sbcIndX z => RoundTrip.sbcIndX z | .sbcIndY z => RoundTrip.sbcIndY z | .andImm v => RoundTrip.andImm v
  | .andZp z => RoundTrip.andZp z | .andZpX z => RoundTrip.andZpX z | .andAbs lo hi => RoundTrip.andAbs lo hi
  | .andAbsX lo hi => RoundTrip.andAbsX lo hi | .andAbsY lo hi => RoundTrip.andAbsY lo hi
  | .andIndX z => RoundTrip.andIndX z | .andIndY z => RoundTrip.andIndY z | .oraImm v => RoundTrip.oraImm v
  | .oraZp z => RoundTrip.oraZp z | .oraZpX z => RoundTrip.oraZpX z | .oraAbs lo hi => RoundTrip.oraAbs lo hi
  | .oraAbsX lo hi => RoundTrip.oraAbsX lo hi | .oraAbsY lo hi => RoundTrip.oraAbsY lo hi
  | .oraIndX z => RoundTrip.oraIndX z | .oraIndY z => RoundTrip.oraIndY z | .eorImm v => RoundTrip.eorImm v
  | .eorZp z => RoundTrip.eorZp z | .eorZpX z => RoundTrip.eorZpX z | .eorAbs lo hi => RoundTrip.eorAbs lo hi
  | .eorAbsX lo hi => RoundTrip.eorAbsX lo hi | .eorAbsY lo hi => RoundTrip.eorAbsY lo hi
  | .eorIndX z => RoundTrip.eorIndX z | .eorIndY z => RoundTrip.eorIndY z | .sec => RoundTrip.sec
  | .clc => RoundTrip.clc | .sei => RoundTrip.sei | .cli => RoundTrip.cli | .sed => RoundTrip.sed
  | .cld => RoundTrip.cld | .clv => RoundTrip.clv | .bmi r => RoundTrip.bmi r | .bpl r => RoundTrip.bpl r
  | .bcc r => RoundTrip.bcc r | .bcs r => RoundTrip.bcs r | .beq r => RoundTrip.beq r | .bne r => RoundTrip.bne r
  | .bvs r => RoundTrip.bvs r | .bvc r => RoundTrip.bvc r | .jmpAbs lo hi => RoundTrip.jmpAbs lo hi
  | .jmpInd lo hi => RoundTrip.jmpInd lo hi | .cmpImm v => RoundTrip.cmpImm v | .cmpZp z => RoundTrip.cmpZp z
  | .cmpZpX z => RoundTrip.cmpZpX z | .cmpAbs lo hi => RoundTrip.cmpAbs lo hi
  | .cmpAbsX lo hi => RoundTrip.cmpAbsX lo hi | .cmpAbsY lo hi => RoundTrip.cmpAbsY lo hi
  | .cmpIndX z => RoundTrip.cmpIndX z | .cmpIndY z => RoundTrip.cmpIndY z | .bitZp z => RoundTrip.bitZp z
  | .bitAbs lo hi => RoundTrip.bitAbs lo hi | .ldxImm v => RoundTrip.ldxImm v | .ldxZp z => RoundTrip.ldxZp z
  | .ldxZpY z => RoundTrip.ldxZpY z | .ldxAbs lo hi => RoundTrip.ldxAbs lo hi
  | .ldxAbsY lo hi => RoundTrip.ldxAbsY lo hi | .ldyImm v => RoundTrip.ldyImm v | .ldyZp z => RoundTrip.ldyZp z
  | .ldyZpX z => RoundTrip.ldyZpX z | .ldyAbs lo hi => RoundTrip.ldyAbs lo hi
  | .ldyAbsX lo hi => RoundTrip.ldyAbsX lo hi | .stxZp z => RoundTrip.stxZp z | .stxZpY z => RoundTrip.stxZpY z
  | .stxAbs lo hi => RoundTrip.stxAbs lo hi | .styZp z => RoundTrip.styZp z | .styZpX z => RoundTrip.styZpX z
  | .styAbs lo hi => RoundTrip.styAbs lo hi | .inx => RoundTrip.inx | .iny => RoundTrip.iny | .dex => RoundTrip.dex
  | .dey => RoundTrip.dey | .cpxImm v => RoundTrip.cpxImm v | .cpxZp z => RoundTrip.cpxZp z
  | .cpxAbs lo hi => RoundTrip.cpxAbs lo hi | .cpyImm v => RoundTrip.cpyImm v | .cpyZp z => RoundTrip.cpyZp z
  | .cpyAbs lo hi => RoundTrip.cpyAbs lo hi | .tax => RoundTrip.tax | .txa => RoundTrip.txa | .tay => RoundTrip.tay
  | .tya => RoundTrip.tya | .jsr lo hi => RoundTrip.jsr lo hi | .rts => RoundTrip.rts | .pha => RoundTrip.pha
  | .pla => RoundTrip.pla | .txs => RoundTrip.txs | .tsx => RoundTrip.tsx | .php => RoundTrip.php
  | .plp => RoundTrip.plp | .brk => RoundTrip.brk | .rti => RoundTrip.rti | .nop => RoundTrip.nop
  | .lsrAcc => RoundTrip.lsrAcc | .lsrZp z => RoundTrip.lsrZp z | .lsrZpX z => RoundTrip.lsrZpX z
  | .lsrAbs lo hi => RoundTrip.lsrAbs lo hi | .lsrAbsX lo hi => RoundTrip.lsrAbsX lo hi | .aslAcc => RoundTrip.aslAcc
  | .aslZp z => RoundTrip.aslZp z | .aslZpX z => RoundTrip.aslZpX z | .aslAbs lo hi => RoundTrip.aslAbs lo hi
  | .aslAbsX lo hi => RoundTrip.aslAbsX lo hi | .rolAcc => RoundTrip.rolAcc | .rolZp z => RoundTrip.rolZp z
  | .rolZpX z => RoundTrip.rolZpX z | .rolAbs lo hi => RoundTrip.rolAbs lo hi
  | .rolAbsX lo hi => RoundTrip.rolAbsX lo hi | .rorAcc => RoundTrip.rorAcc | .rorZp z => RoundTrip.rorZp z
  | .rorZpX z => RoundTrip.rorZpX z | .rorAbs lo hi => RoundTrip.rorAbs lo hi
  | .rorAbsX lo hi => RoundTrip.rorAbsX lo hi | .incZp z => RoundTrip.incZp z | .incZpX z => RoundTrip.incZpX z
  | .incAbs lo hi => RoundTrip.incAbs lo hi | .incAbsX lo hi => RoundTrip.incAbsX lo hi
  | .decZp z => RoundTrip.decZp z | .decZpX z => RoundTrip.decZpX z | .decAbs lo hi => RoundTrip.decAbs lo hi
  | .decAbsX lo hi => RoundTrip.decAbsX lo hi

end Sys2Proof.Laws

namespace Sys2Proof.Machine

/-! ### Decoding (R84, R85, R89) -/

/-- Bytes decode under the parameters exactly when they decode with ROR assigned and the part has the instruction. -/
theorem decodeFor_eq_instr {cfg : Config} {bytes rest : List Byte} {i : Instr} :
    decodeFor cfg bytes = .instr i rest ↔ decode bytes = .instr i rest ∧ i.wellFormed cfg = true := by
  unfold decodeFor
  cases decode bytes with
  | futureExpansion | truncated => simp
  | instr j rest' =>
    dsimp only
    constructor
    · intro h
      split at h <;> cases h
      exact ⟨rfl, ‹_›⟩
    · rintro ⟨hj, hpresent⟩
      cases hj
      exact if_pos hpresent

/-- The opcode byte selects a row, and the row takes the operand bytes. -/
theorem decode_cons_eq_instr {op : Byte} {bytes rest : List Byte} {i : Instr} :
    decode (op :: bytes) = .instr i rest ↔ ∃ r, opcodeRow op = some r ∧ r.take bytes = .instr i rest := by
  cases hrow : opcodeRow op <;> simp [decode, hrow]

/-- What a row takes, by its length: no operand byte, one or two (R80, R81). -/
theorem take_cases {r : OpcodeRow} {bytes rest : List Byte} {i : Instr} (h : r.take bytes = .instr i rest) :
    (r.length = 1 ∧ bytes = rest ∧ i = r.build 0 0) ∨
    (∃ b1, r.length = 2 ∧ bytes = b1 :: rest ∧ i = r.build b1 0) ∨
    (∃ b1 b2, r.length = 3 ∧ bytes = b1 :: b2 :: rest ∧ i = r.build b1 b2) := by
  unfold OpcodeRow.take at h
  split at h <;> cases h
  case h_1 hlength => exact .inl ⟨hlength, rfl, rfl⟩
  case h_2 b1 hlength => exact .inr (.inl ⟨b1, hlength, rfl, rfl⟩)
  case h_3 b1 b2 hlength => exact .inr (.inr ⟨b1, b2, hlength, rfl, rfl⟩)

/-- A row builds instructions whose encoding is its opcode and as many operand bytes as its length says (R86). -/
theorem encode_build {r : OpcodeRow} (hr : r ∈ opcodeMap) (b1 b2 : Byte) :
    encode (r.build b1 b2) = r.opcode :: [b1, b2].take (r.length - 1) := by
  have hrows : opcodeMap.Forall fun r => ∀ b1 b2,
      encode (r.build b1 b2) = r.opcode :: [b1, b2].take (r.length - 1) := by
    repeat' apply And.intro
    all_goals exact fun _ _ => rfl
  exact List.forall_iff_forall_mem.1 hrows r hr b1 b2

/-- The length that a row gives is that of the instructions it builds (R80). -/
theorem length_build {r : OpcodeRow} (hr : r ∈ opcodeMap) (b1 b2 : Byte) : (r.build b1 b2).length = r.length := by
  have hrows : opcodeMap.Forall fun r => ∀ b1 b2, (r.build b1 b2).length = r.length := by
    repeat' apply And.intro
    all_goals exact fun _ _ => rfl
  exact List.forall_iff_forall_mem.1 hrows r hr b1 b2

/-- The opcode byte is always there (R80). -/
theorem length_pos (i : Instr) : 0 < i.length := by
  unfold Instr.length
  cases i.operand with
  | implied | accumulator | immediate | relative | indirect => exact Nat.succ_pos _
  | memory m => cases m <;> exact Nat.succ_pos _

/-- The row that an opcode byte selects is a row of the map, for that byte. -/
theorem mem_of_opcodeRow {op : Byte} {r : OpcodeRow} (h : opcodeRow op = some r) : r ∈ opcodeMap ∧ r.opcode = op :=
  ⟨List.mem_of_find?_eq_some h, by simpa using List.find?_some h⟩

/-- The bytes that a row takes are the operand bytes of the instruction it builds. -/
theorem eq_encode_of_take {r : OpcodeRow} {bytes rest : List Byte} {i : Instr} (hr : r ∈ opcodeMap)
    (h : r.take bytes = .instr i rest) : r.opcode :: bytes = encode i ++ rest := by
  obtain ⟨hlength, rfl, rfl⟩ | ⟨b1, hlength, rfl, rfl⟩ | ⟨b1, b2, hlength, rfl, rfl⟩ := take_cases h <;>
    simp [encode_build hr, hlength]

/-- Settles O1: the round trip of every instruction, under parameters that have it. -/
theorem decodeUndoesEncode : Obligations.DecodeUndoesEncode :=
  fun _ i rest hwf => decodeFor_eq_instr.2 ⟨Laws.decode_encode i rest, hwf⟩

/-- Settles O2: the first byte is the opcode of the row that it selects, the bytes after it are what that row takes. -/
theorem encodeUndoesDecode : Obligations.EncodeUndoesDecode := by
  intro bytes rest i h
  cases bytes with
  | nil => cases h
  | cons op bytes =>
    obtain ⟨r, hrow, htake⟩ := decode_cons_eq_instr.1 h
    obtain ⟨hr, rfl⟩ := mem_of_opcodeRow hrow
    exact eq_encode_of_take hr htake

/-! ### The Future Expansion opcodes (R88) -/

/-- A list of opcodes as a set: bit `n` of the number says whether opcode `n` is listed. -/
def opcodeSet (l : List Byte) : Nat := l.foldr (fun op set => 2 ^ op.toNat ||| set) 0

theorem testBit_opcodeSet (l : List Byte) (op : Byte) : (opcodeSet l).testBit op.toNat = decide (op ∈ l) := by
  induction l with
  | nil => simp [opcodeSet]
  | cons b l ih =>
    have hcons : opcodeSet (b :: l) = 2 ^ b.toNat ||| opcodeSet l := rfl
    simp [hcons, Nat.testBit_or, Nat.testBit_two_pow, ih, BitVec.toNat_inj, @eq_comm _ b]

/-- The opcodes of the map and those that R88 lists are each other's complement among the 256. -/
theorem opcodeSet_complement :
    opcodeSet (opcodeMap.map OpcodeRow.opcode) ^^^ opcodeSet futureExpansionOpcodes = 2 ^ 256 - 1 := by
  simp [opcodeSet, futureExpansionOpcodes, opcodeMap, opcodeRow0, opcodeRow1, opcodeRow2, opcodeRow3, opcodeRow4,
    opcodeRow5, opcodeRow6, opcodeRow7, opcodeRow8, opcodeRow9, opcodeRowA, opcodeRowB, opcodeRowC, opcodeRowD,
    opcodeRowE, opcodeRowF]

/-- R88 lists exactly the opcodes that no row of the map has. -/
theorem mem_futureExpansionOpcodes (op : Byte) :
    op ∈ futureExpansionOpcodes ↔ op ∉ opcodeMap.map OpcodeRow.opcode := by
  have hbit := congrArg (Nat.testBit · op.toNat) opcodeSet_complement
  simp only [Nat.testBit_xor, testBit_opcodeSet, Nat.testBit_two_pow_sub_one] at hbit
  by_cases hmap : op ∈ opcodeMap.map OpcodeRow.opcode <;> simpa [hmap, op.isLt] using hbit

/-- An opcode has no row exactly when R88 lists it. -/
theorem opcodeRow_eq_none {op : Byte} : opcodeRow op = none ↔ op ∈ futureExpansionOpcodes := by
  simp [mem_futureExpansionOpcodes, opcodeRow]

/-- An opcode without a row is refused by name, with no operand byte read (R88). -/
theorem fetch_of_no_row {s : State} (hio : s.isIo s.pc = false) (hrow : opcodeRow (s.byteAt s.pc) = none) :
    fetch s = .error (.futureExpansion (s.byteAt s.pc)) := by
  simp only [fetch, load_eq hio, ok_bind, hrow, throw_error]

/-- Settles O3: the listed opcodes are those without a row, and the fetch of one is refused. -/
theorem futureExpansionIsRefused : Obligations.FutureExpansionIsRefused := by
  refine ⟨rfl, fun op => opcodeRow_eq_none, fun s hevent hio hop => ?_⟩
  have hfetch : fetch (sample s) = .error (.futureExpansion (s.byteAt s.pc)) := by
    simpa using fetch_of_no_row (s := sample s) (by simpa using hio) (by simpa using opcodeRow_eq_none.2 hop)
  rw [step_of_no_event hevent, runInstruction_of_fetch_error hfetch]

/-! ### Zero page and absolute (R91) -/

/-- Two computations with one outcome, but for PC one further on in the second one's next state. -/
def OneFurther (x y : Result State) : Prop := finish y = movePc 1 (finish x)

theorem OneFurther.pure (t : State) : OneFurther (pure (t.advance 2)) (pure (t.advance 3)) := by
  simp [OneFurther, movePc, State.advance, State.withPc, BitVec.add_assoc]

theorem OneFurther.throw (r : Refusal) : OneFurther (throw r) (throw r) := rfl

/-- A common first part keeps two computations one apart. -/
theorem OneFurther.bind {α : Type} {x : Result α} {f g : α → Result State} (h : ∀ a, OneFurther (f a) (g a)) :
    OneFurther (x >>= f) (x >>= g) := by
  cases x with
  | error r => exact .throw r
  | ok a => exact h a

/-- ADC and SBC: the same digits are refused, the same sum is written (R122, R123). -/
theorem arithmetic_oneFurther (result : State → Byte → Sum) (z : Byte) (s : State) :
    OneFurther (arithmetic result (.memory (.zeroPage z)) s) (arithmetic result (.memory (.absolute z 0)) s) := by
  refine .bind (x := load (zext16 z) s) fun v => ?_
  dsimp only
  split
  · exact .throw _
  · exact .pure _

/-- A mnemonic with a zero-page form reads, stores or modifies the byte at `zext16 z` in either format, and then
advances PC by the length of the format. -/
theorem meaning_oneFurther {i : Instr} {z : Byte} (hi : i.operand = .memory (.zeroPage z)) (s : State) :
    OneFurther (meaning i.mnemonic (.memory (.zeroPage z)) s) (meaning i.mnemonic (.memory (.absolute z 0)) s) := by
  cases i with
  | ldaZp | ldxZp | ldyZp | andZp | oraZp | eorZp | cmpZp | cpxZp | cpyZp | bitZp =>
    exact .bind (x := load (zext16 z) s) fun _ => .pure _
  | adcZp | sbcZp => exact arithmetic_oneFurther _ z s
  | staZp | stxZp | styZp => exact .bind (x := store (zext16 z) _ s) fun _ => .pure _
  | lsrZp | aslZp | rolZp | rorZp | incZp | decZp =>
    exact .bind (x := load (zext16 z) s) fun _ => .bind fun _ => .pure _
  | _ => cases hi

/-- Settles O60: one mnemonic has one meaning, and that meaning at one address differs by the length alone. -/
theorem zeroPageAndAbsoluteAgree : Obligations.ZeroPageAndAbsoluteAgree := by
  intro i j s z hmnemonic hi hj
  rw [exec_eq_meaning, exec_eq_meaning, ← hmnemonic, hi, hj]
  exact meaning_oneFurther hi s

/-- Settles O4: the opcode map and the rows, evaluated on the eleven words. -/
theorem writtenWordsDecode : Obligations.WrittenWordsDecode :=
  ⟨rfl, rfl, rfl, rfl, rfl, rfl, rfl, rfl, rfl, rfl, rfl⟩

/-! ### The step runs what decodes (R84, R233) -/

/-- A byte of an accessible instruction is no device's (R81). -/
theorem isIo_of_instructionAddrs {s : State} {i : Instr} (h : accessible s (instructionAddrs i s)) {k : Nat}
    (hk : k < i.length) : s.isIo (s.pc + BitVec.ofNat 16 k) = false :=
  h _ (List.mem_map_of_mem (List.mem_range.2 hk))

/-- An opcode whose row builds an instruction that the part has: the operand bytes are read. -/
theorem fetch_of_row {s : State} {r : OpcodeRow} (hio : s.isIo s.pc = false) (hrow : opcodeRow (s.byteAt s.pc) = some r)
    (hpresent : (r.build 0 0).wellFormed s.cfg = true) : fetch s = fetchOperands r s := by
  simp only [fetch, load_eq hio, ok_bind, hrow, hpresent, if_true]

/-- Where none of its bytes is a device's, reading the operand bytes one by one builds the instruction that the row
takes from the two bytes after the opcode. -/
theorem fetchOperands_of_take {s : State} {r : OpcodeRow} {i : Instr} {rest : List Byte} (hr : r ∈ opcodeMap)
    (h : r.take [s.byteAt (s.pc + 1), s.byteAt (s.pc + 2)] = .instr i rest)
    (hio : accessible s (instructionAddrs i s)) : fetchOperands r s = .ok i := by
  have hload : ∀ k < i.length, load (s.pc + BitVec.ofNat 16 k) s = .ok (s.byteAt (s.pc + BitVec.ofNat 16 k)) :=
    fun k hk => load_eq (isIo_of_instructionAddrs hio hk)
  obtain ⟨hlength, -, rfl⟩ | ⟨b1, hlength, hbytes, rfl⟩ | ⟨b1, b2, hlength, hbytes, rfl⟩ := take_cases h
  · simp only [fetchOperands, hlength, pure_ok]
  · cases hbytes
    have h1 : load (s.pc + 1) s = .ok (s.byteAt (s.pc + 1)) := hload 1 (by simp [length_build hr, hlength])
    simp only [fetchOperands, hlength, h1, ok_bind, pure_ok]
  · cases hbytes
    have h1 : load (s.pc + 1) s = .ok (s.byteAt (s.pc + 1)) := hload 1 (by simp [length_build hr, hlength])
    have h2 : load (s.pc + 2) s = .ok (s.byteAt (s.pc + 2)) := hload 2 (by simp [length_build hr, hlength])
    simp only [fetchOperands, hlength, h1, h2, ok_bind, pure_ok]

/-- The instruction that the bytes at PC decode to is fetched where none of its bytes is a device's (R84). -/
theorem fetch_of_decodedAtPc {s : State} {i : Instr} {rest : List Byte} (h : decodedAtPc s = .instr i rest)
    (hio : accessible s (instructionAddrs i s)) : fetch s = .ok i := by
  obtain ⟨hdecode, hpresent⟩ := decodeFor_eq_instr.1 h
  obtain ⟨r, hrow, htake⟩ := decode_cons_eq_instr.1 hdecode
  obtain ⟨hr, -⟩ := mem_of_opcodeRow hrow
  obtain ⟨b1, b2, rfl⟩ := exists_build_of_take htake
  have hopcode : s.isIo s.pc = false := by simpa using isIo_of_instructionAddrs hio (length_pos _)
  rw [fetch_of_row hopcode hrow (by rwa [wellFormed_build hr] at hpresent)]
  exact fetchOperands_of_take hr htake hio

/-- Settles O6: the fetch in the sampled state gives the instruction that the bytes at PC decode to. -/
theorem stepRunsDecodedInstruction : Obligations.StepRunsDecodedInstruction := by
  intro s i rest hevent hdecode hio
  have hfetch : fetch (sample s) = .ok i := by
    refine fetch_of_decodedAtPc ((decodedAtPc_sample s).trans hdecode) ?_
    simpa [accessible, instructionAddrs] using hio
  simp only [step_of_no_event hevent, runInstruction, hfetch]

end Sys2Proof.Machine

/-! The statements of 40_addressing_modes.md: the address and the operand byte of each format, where branches and jumps
go, and the shifts of the accumulator. -/

namespace Sys2Proof.Machine

/-! ### Effective addresses (R104 to R109, R112, R113) -/

/-- Zero-page indexing wraps inside the page (D4). -/
theorem zext16_add_toNat (b c : Byte) : (zext16 (b + c)).toNat = (b.toNat + c.toNat) % 256 := by
  rw [zext16_toNat, BitVec.toNat_add]

/-- Indexing of a full address wraps at the end of the address space (D7). -/
theorem add_zext16_toNat (w : Word) (b : Byte) : (w + zext16 b).toNat = (w.toNat + b.toNat) % 65536 := by
  rw [BitVec.toNat_add, zext16_toNat]

theorem accessible_pair {s : State} {p q : Word} :
    accessible s [p, q] ↔ s.isIo p = false ∧ s.isIo q = false := by
  simp

/-- The pointer of a zero-page byte, its two addresses given as numbers. -/
theorem zeroPagePointer_of_toNat {z : Byte} {s : State} {p q : Word} (hp : p.toNat = z.toNat)
    (hq : q.toNat = (z.toNat + 1) % 256) (hacc : accessible s [p, q]) :
    zeroPagePointer z s = .ok (word (s.byteAt p) (s.byteAt q)) := by
  obtain rfl : p = zext16 z := BitVec.eq_of_toNat_eq (by rw [hp, zext16_toNat])
  obtain rfl : q = zext16 (z + 1) := BitVec.eq_of_toNat_eq (by rw [hq, zext16_add_toNat]; rfl)
  obtain ⟨hlow, hhigh⟩ := accessible_pair.1 hacc
  exact zeroPagePointer_ok.2 ⟨hlow, hhigh, rfl⟩

theorem effectiveAddress_indirectX (z : Byte) (s : State) :
    effectiveAddress (.indirectX z) s = zeroPagePointer (z + s.x) s := rfl

theorem effectiveAddress_indirectY (z : Byte) (s : State) :
    effectiveAddress (.indirectY z) s = (zeroPagePointer z s >>= fun base => pure (base + zext16 s.y)) := rfl

/-- Settles O14: the six direct formats are sums of bytes and words, the two indirect ones go through the pointer. -/
theorem effectiveAddressOfEachFormat : Obligations.EffectiveAddressOfEachFormat := by
  intro s b lo hi
  refine ⟨⟨_, rfl, zext16_toNat b⟩, ⟨_, rfl, zext16_add_toNat b s.x⟩, ⟨_, rfl, zext16_add_toNat b s.y⟩,
    ⟨_, rfl, word_toNat lo hi⟩, ⟨_, rfl, ?absoluteX⟩, ⟨_, rfl, ?absoluteY⟩, fun p q hp hq hacc => ?indirectX,
    fun p q hp hq hacc => ?indirectY⟩
  case absoluteX => rw [add_zext16_toNat, word_toNat]
  case absoluteY => rw [add_zext16_toNat, word_toNat]
  case indirectX =>
    have hbase : (b + s.x).toNat = (b.toNat + s.x.toNat) % 256 := BitVec.toNat_add b s.x
    have hpointer := zeroPagePointer_of_toNat (z := b + s.x) (by rw [hp, hbase]) (by rw [hq, hbase]; omega) hacc
    exact ⟨_, (effectiveAddress_indirectX b s).trans hpointer, word_toNat _ _⟩
  case indirectY =>
    have hpointer := zeroPagePointer_of_toNat hp hq hacc
    refine ⟨_, by rw [effectiveAddress_indirectY, hpointer]; rfl, ?_⟩
    rw [add_zext16_toNat, word_toNat]

/-! ### Operand bytes (R100, R103) -/

/-- A format forms its address where none of the bytes it reads for it is a device's. -/
theorem effectiveAddress_of_accessible {m : MemMode} {s : State} (h : accessible s (pointerAddrs m s)) :
    ∃ a, effectiveAddress m s = .ok a := by
  cases m with
  | zeroPage | zeroPageX | zeroPageY | absolute | absoluteX | absoluteY => exact ⟨_, rfl⟩
  | indirectX z =>
    obtain ⟨hlow, hhigh⟩ := accessible_pair.1 h
    exact ⟨_, zeroPagePointer_ok.2 ⟨hlow, hhigh, rfl⟩⟩
  | indirectY z =>
    obtain ⟨hlow, hhigh⟩ := accessible_pair.1 h
    exact ⟨_, bind_ok.2 ⟨_, zeroPagePointer_ok.2 ⟨hlow, hhigh, rfl⟩, rfl⟩⟩

/-- Once the address is formed, the operand byte is the read of that address. -/
theorem operandByte_memory_eq_load {m : MemMode} {s : State} {a : Word} (hea : effectiveAddress m s = .ok a) :
    operandByte (.memory m) s = load a s := by
  simp only [operandByte, memoryByte, hea, ok_bind]

/-- Settles O15: an immediate operand is read with the instruction, any other by one read of its address. -/
theorem operandByteOfEachForm : Obligations.OperandByteOfEachForm := by
  intro s v m
  refine ⟨rfl, effectiveAddress_of_accessible, fun a hea hio => ?_, fun a hea hio => ?_⟩
  · rw [operandByte_memory_eq_load hea, load_eq hio]
  · rw [operandByte_memory_eq_load hea, load_of_isIo hio]

/-! ### Branches (R111, R140 to R148, R273) -/

/-- The displacement read as two's complement (R83, D1). -/
theorem displacement_twosComplement_toInt (rel : Byte) :
    (displacement .twosComplement rel).toInt =
      if rel.toNat < 128 then (rel.toNat : Int) else (rel.toNat : Int) - 256 := by
  have hsext : (displacement .twosComplement rel).toInt = rel.toInt := BitVec.toInt_signExtend_of_le (by decide)
  rw [hsext, BitVec.toInt_eq_toNat_cond]
  split <;> split <;> omega

/-- The displacement read as sign and magnitude (R83, D1): the byte 80 is 0. -/
theorem displacement_signMagnitude_toInt (rel : Byte) :
    (displacement .signMagnitude rel).toInt =
      if rel.toNat < 128 then (rel.toNat : Int) else 128 - (rel.toNat : Int) := by
  have hrel := rel.isLt
  have hsign : rel.getLsbD 7 = true ↔ 128 ≤ rel.toNat := by
    rw [getLsbD_eq_decide_toNat, decide_eq_true_eq]; omega
  have hmagnitude : (rel &&& 0x7F).toNat = rel.toNat % 128 := by
    rw [BitVec.toNat_and]; exact Nat.and_two_pow_sub_one_eq_mod rel.toNat 7
  by_cases hlow : rel.toNat < 128
  · have hdisp : displacement .signMagnitude rel = zext16 rel := if_neg (by rw [hsign]; omega)
    rw [hdisp, BitVec.toInt_eq_toNat_cond, zext16_toNat, if_pos hlow, if_pos (by omega)]
  · have hdisp : displacement .signMagnitude rel = - zext16 (rel &&& 0x7F) :=
      if_pos (hsign.2 (Nat.le_of_not_lt hlow))
    rw [hdisp, BitVec.toInt_eq_toNat_cond, BitVec.toNat_neg, zext16_toNat, hmagnitude, if_neg hlow]
    split <;> omega

/-- A target as a number: PC + 2 and the signed displacement, modulo 65536 (D9). -/
theorem branchTarget_toNat (rel : Byte) (s : State) :
    ((branchTarget rel s).toNat : Int) = (s.pc.toNat + 2 + (displacement s.cfg.relDecode rel).toInt) % 65536 := by
  have htwo : (2 : Word).toNat = 2 := rfl
  rw [branchTarget, BitVec.toInt_eq_toNat_cond, BitVec.toNat_add, BitVec.toNat_add, htwo]
  split <;> omega

/-- The instructions with a relative operand are the branches. -/
theorem exec_of_relative {i : Instr} {rel : Byte} (ho : i.operand = .relative rel) (s : State) :
    exec i s = finish (branch i.mnemonic rel s) := by
  cases i with
  | bmi | bpl | bcc | bcs | beq | bne | bvs | bvc => cases ho; rfl
  | _ => cases ho

theorem cycles_of_relative {i : Instr} {rel : Byte} (ho : i.operand = .relative rel) (s : State) :
    cycles i s = 2 + branchPenalty i.mnemonic (.relative rel) s := by
  cases i with
  | bmi | bpl | bcc | bcs | beq | bne | bvs | bvc => cases ho; rfl
  | _ => cases ho

/-- The common rule of the branches moves PC alone (R140). -/
theorem branch_eq (m : Mnemonic) (rel : Byte) (s : State) :
    branch m rel s = .ok { s with pc := if branchCondition m s.p then branchTarget rel s else s.pc + 2 } := by
  unfold branch
  split <;> rfl

theorem branchPenalty_relative (m : Mnemonic) (rel : Byte) (s : State) :
    branchPenalty m (.relative rel) s =
      if branchCondition m s.p then 1 + (branchCrossesPage rel s).toNat else 0 := rfl

/-- The cycles of a branch: two, three or four (R273). -/
theorem two_add_branchPenalty (m : Mnemonic) (rel : Byte) (s : State) :
    2 + branchPenalty m (.relative rel) s =
      if branchCondition m s.p then (if hiByte (branchTarget rel s) = hiByte (s.pc + 2) then 3 else 4) else 2 := by
  rw [branchPenalty_relative]
  split
  · by_cases hpage : hiByte (branchTarget rel s) = hiByte (s.pc + 2)
    · have hcross : branchCrossesPage rel s = false := bne_eq_false_iff_eq.2 hpage
      rw [hcross, if_pos hpage]
      rfl
    · have hcross : branchCrossesPage rel s = true := bne_iff_ne.2 hpage
      rw [hcross, if_neg hpage]
      rfl
  · rfl

/-- Settles O27: each of the eight is the common rule under the condition of its mnemonic. -/
theorem branchesGoWhereTheirFlagSays : Obligations.BranchesGoWhereTheirFlagSays := by
  intro s rel i op cond disp hi hdisp
  obtain ⟨ho, hencode, hcond⟩ : i.operand = .relative rel ∧ encode i = [op, rel] ∧
      cond = branchCondition i.mnemonic s.p := by
    rcases hi with ⟨rfl, rfl, hc⟩ | ⟨rfl, rfl, hc⟩ | ⟨rfl, rfl, hc⟩ | ⟨rfl, rfl, hc⟩ | ⟨rfl, rfl, hc⟩ | ⟨rfl, rfl, hc⟩ |
      ⟨rfl, rfl, hc⟩ | ⟨rfl, rfl, hc⟩ <;> exact ⟨rfl, rfl, hc⟩
  have hdisplacement : (displacement s.cfg.relDecode rel).toInt = disp := by
    rw [hdisp]
    cases s.cfg.relDecode with
    | twosComplement => exact displacement_twosComplement_toInt rel
    | signMagnitude => exact displacement_signMagnitude_toInt rel
  refine ⟨hencode, ?_, branchTarget rel s, ?_, ?_, ?_⟩
  · simpa [hencode] using Laws.decode_encode i []
  · rw [branchTarget_toNat, hdisplacement]
  · rw [exec_of_relative ho, branch_eq, finish_ok, hcond]
  · rw [cycles_of_relative ho, two_add_branchPenalty, hcond]

/-! ### Jumps (R107, R110, R149) -/

/-- The address of the high byte of an indirect target, as a number (R110): the two settings differ at the last byte
of a page. -/
theorem pointerHighAddr_toNat (wrap : Bool) (lo hi : Byte) :
    (pointerHighAddr wrap lo hi).toNat =
      if lo = 0xFF ∧ wrap = true then hi.toNat * 256 else (hi.toNat * 256 + lo.toNat + 1) % 65536 := by
  have hhi := hi.isLt
  have hlo := lo.isLt
  cases wrap with
  | false =>
    have hnext : pointerHighAddr false lo hi = word lo hi + 1 := rfl
    rw [hnext, BitVec.toNat_add, word_toNat]
    simp
  | true =>
    have hinside : (pointerHighAddr true lo hi).toNat = hi.toNat * 256 + (lo.toNat + 1) % 256 := word_toNat _ _
    have hlast : lo = 0xFF ↔ lo.toNat = 255 := ⟨fun h => h ▸ rfl, fun h => BitVec.eq_of_toNat_eq h⟩
    simp only [hinside, hlast, and_true]
    split <;> omega

/-- Settles O28: the addresses given as numbers are those that the indirect target reads. -/
theorem jumpsLoadThePc : Obligations.JumpsLoadThePc := by
  intro s lo hi
  refine ⟨rfl, fun p q hp hq hacc => ?_⟩
  obtain rfl : p = word lo hi := BitVec.eq_of_toNat_eq (by rw [hp, word_toNat])
  obtain rfl : q = pointerHighAddr s.cfg.jmpIndPageWrap lo hi :=
    BitVec.eq_of_toNat_eq (by rw [hq, pointerHighAddr_toNat])
  obtain ⟨hlow, hhigh⟩ := accessible_pair.1 hacc
  have htarget := indirectTarget_ok.2 ⟨hlow, hhigh, rfl⟩
  rw [exec_eq_meaning]
  exact finish_next.2 (jumpIndirect_ok.2 ⟨_, htarget, rfl⟩)

/-! ### Shifts of the accumulator (R102, R200 to R203) -/

section
variable {m r : Byte} {k : Bool}

/-- A byte whose bits are those of `m` one place down, with `k` entering at the top, as a number: the nine bits of `k`
and `m` without the lowest. -/
theorem toNat_of_bits_down (htop : r.getLsbD 7 = k) (hbits : ∀ j, j < 7 → r.getLsbD j = m.getLsbD (j + 1)) :
    r.toNat = (m.toNat + 256 * k.toNat) / 2 := by
  have hr : r = ((BitVec.cons k m) >>> 1).setWidth 8 := by
    refine BitVec.eq_of_getLsbD_eq fun j hj => ?_
    rw [BitVec.getLsbD_setWidth, BitVec.getLsbD_ushiftRight, BitVec.getLsbD_cons, Nat.add_comm 1 j]
    rcases Nat.lt_or_eq_of_le (Nat.le_of_lt_succ hj) with hlow | rfl
    · rw [hbits j hlow, if_neg (by omega), decide_eq_true hj, Bool.true_and]
    · rw [htop, if_pos rfl, decide_eq_true hj, Bool.true_and]
  have hm := m.isLt
  have hk := k.toNat_le
  rw [hr, BitVec.toNat_setWidth, BitVec.toNat_ushiftRight, BitVec.toNat_cons', Nat.shiftLeft_eq,
    Nat.shiftRight_eq_div_pow]
  omega

/-- A byte whose bits are those of `m` one place up, with `k` entering at the bottom, as a number. -/
theorem toNat_of_bits_up (hbottom : r.getLsbD 0 = k) (hbits : ∀ j, j < 7 → r.getLsbD (j + 1) = m.getLsbD j) :
    r.toNat = (m.toNat * 2 + k.toNat) % 256 := by
  have hr : r = (BitVec.concat m k).setWidth 8 := by
    refine BitVec.eq_of_getLsbD_eq fun j hj => ?_
    rw [BitVec.getLsbD_setWidth, BitVec.getLsbD_concat, decide_eq_true hj, Bool.true_and]
    cases j with
    | zero => exact hbottom
    | succ j => exact hbits j (by omega)
  rw [hr, BitVec.toNat_setWidth, BitVec.toNat_concat]

end

/-- An instruction on the accumulator whose meaning is a shift that computes `r` and the carry `c`. -/
theorem exec_of_modifyAccumulator {f : Byte → Bool → Shifted} {i : Instr} {s : State} {r : Byte} {c : Bool}
    (hexec : exec i s = finish (modifyAccumulator f s)) (hf : f s.a s.p.c = ⟨r, c⟩) :
    exec i s = .next { s with
      a := r, p := { s.p with n := r.getLsbD 7, z := r == 0, c := c }, pc := s.pc + 1 } := by
  rw [hexec, modifyAccumulator, hf]
  rfl

/-- Settles O44: the bits that the statement names make up the byte that each shift computes. -/
theorem shiftsOfTheAccumulator : Obligations.ShiftsOfTheAccumulator := by
  rintro s r c i
    (⟨rfl, hc, hin, hbits⟩ | ⟨rfl, hc, hin, hbits⟩ | ⟨rfl, hc, hin, hbits⟩ | ⟨rfl, hc, hin, hbits⟩)
  · have hr : r.toNat = s.a.toNat / 2 := by simpa using toNat_of_bits_down hin hbits
    exact exec_of_modifyAccumulator (exec_lsr (target := .accumulator) rfl rfl) (shiftRight_eq hr hc)
  · have hr : r.toNat = s.a.toNat * 2 % 256 := by simpa using toNat_of_bits_up hin hbits
    exact exec_of_modifyAccumulator (exec_asl (target := .accumulator) rfl rfl) (shiftLeft_eq hr hc)
  · exact exec_of_modifyAccumulator (exec_rol (target := .accumulator) rfl rfl)
      (rotateLeft_eq (toNat_of_bits_up hin hbits) hc)
  · exact exec_of_modifyAccumulator (exec_ror (target := .accumulator) rfl rfl)
      (rotateRight_eq (toNat_of_bits_down hin hbits) hc)

end Sys2Proof.Machine

/-! The statements of 41_accumulator_ops.md (with the loads and stores of the index registers, 44_index_ops.md): loads,
stores, the binary and the decimal arithmetic, the logical operations. -/

namespace Sys2Proof.Machine

/-! ### Loads (R120, R160, R161) -/

/-- The length that PC moves by is that of the operand form. -/
theorem length_of_operand {i : Instr} {o : Operand} (ho : i.operand = o) : i.length = o.length := by
  rw [Instr.length, ho]

/-- Settles O16: the three loads differ in the register they write. -/
theorem loadsCopyTheOperand : Obligations.LoadsCopyTheOperand := by
  intro i src s v ho hv
  rw [length_of_operand ho]
  refine ⟨fun hm => ?_, fun hm => ?_, fun hm => ?_⟩
  · rw [exec_lda hm ho]
    exact finish_next.2 (loadA_ok.2 ⟨v, hv, rfl⟩)
  · rw [exec_ldx hm ho]
    exact finish_next.2 (loadX_ok.2 ⟨v, hv, rfl⟩)
  · rw [exec_ldy hm ho]
    exact finish_next.2 (loadY_ok.2 ⟨v, hv, rfl⟩)

/-! ### Stores (R121, R162, R163) -/

/-- A store at an address that is no device's, then PC past the instruction. -/
theorem store_advance_spec {a : Word} (v : Byte) {s : State} (hio : s.isIo a = false) (len : Nat) :
    ∃ u, store a v s = .ok u ∧
      u.advance len = { s with mem := u.mem, pc := s.pc + BitVec.ofNat 16 len } ∧
      (u.advance len).byteAt a = storedByte s a v ∧ sameMemoryOutside [a] s (u.advance len) := by
  obtain ⟨mem, hstore, hbyte, -⟩ := store_spec v hio
  refine ⟨s.withMem mem, hstore, rfl, ?_, fun b hb => ?_⟩
  · rw [State.advance_byteAt, hbyte, if_pos rfl]
  · rw [State.advance_byteAt, hbyte, if_neg (by simpa using hb)]

/-- Settles O17: the three stores differ in the register they read. -/
theorem storesWriteOneByte : Obligations.StoresWriteOneByte := by
  intro i m s v a ho hea hio hm
  obtain ⟨u, hstore, hframe, hbyte, hother⟩ := store_advance_spec v hio m.length
  rw [length_of_operand ho]
  refine ⟨u.advance m.length, ?_, hframe, hbyte, hother⟩
  rcases hm with ⟨hm, rfl⟩ | ⟨hm, rfl⟩ | ⟨hm, rfl⟩
  · rw [exec_sta hm ho]
    exact finish_next.2 (storeA_ok.2 ⟨a, u, hea, hstore, rfl⟩)
  · rw [exec_stx hm ho]
    exact finish_next.2 (storeX_ok.2 ⟨a, u, hea, hstore, rfl⟩)
  · rw [exec_sty hm ho]
    exact finish_next.2 (storeY_ok.2 ⟨a, u, hea, hstore, rfl⟩)

/-! ### Logical operations (R124 to R126) -/

/-- An instruction whose meaning is a logical operation that computes `r`. -/
theorem exec_of_logical {f : Byte → Byte → Byte} {i : Instr} {src : Source} {s : State} {m r : Byte}
    (hexec : exec i s = finish (logical f src s)) (ho : i.operand = src.operand) (hread : operandByte src s = .ok m)
    (hf : f s.a m = r) :
    exec i s = .next { s with
      a := r, p := { s.p with n := r.getLsbD 7, z := r == 0 }, pc := s.pc + BitVec.ofNat 16 i.length } := by
  rw [hexec, length_of_operand ho, ← hf]
  exact finish_next.2 (logical_ok.2 ⟨m, hread, rfl⟩)

/-- Settles O25: a byte is determined by its bits. -/
theorem logicalOperationsWriteA : Obligations.LogicalOperationsWriteA := by
  rintro i src s m r ho hread (⟨hm, hbits⟩ | ⟨hm, hbits⟩ | ⟨hm, hbits⟩)
  · have hr : s.a &&& m = r := BitVec.eq_of_getLsbD_eq fun k _ => by rw [BitVec.getLsbD_and, hbits]
    exact exec_of_logical (exec_and hm ho) ho hread hr
  · have hr : s.a ||| m = r := BitVec.eq_of_getLsbD_eq fun k _ => by rw [BitVec.getLsbD_or, hbits]
    exact exec_of_logical (exec_ora hm ho) ho hread hr
  · have hr : s.a ^^^ m = r := BitVec.eq_of_getLsbD_eq fun k _ => by rw [BitVec.getLsbD_xor, hbits]
    exact exec_of_logical (exec_eor hm ho) ho hread hr

/-! ### Which operands decimal mode refuses (R122, R123, D20) -/

theorem validBcd_iff {v : Byte} : validBcd v = true ↔ v.toNat % 16 ≤ 9 ∧ v.toNat / 16 ≤ 9 := by
  simp [validBcd]

theorem refusesBcd_of_binary {s : State} (m : Byte) (hd : s.p.d = false) : refusesBcd s m = false := by
  simp [refusesBcd, hd]

theorem refusesBcd_of_formula {s : State} {m : Byte}
    (h : s.cfg.invalidBcd = .sourceFormula ∨ (validBcd s.a = true ∧ validBcd m = true)) : refusesBcd s m = false := by
  rcases h with hcfg | ⟨ha, hm⟩
  · rw [refusesBcd, hcfg]
    simp
  · simp [refusesBcd, ha, hm]

theorem refusesBcd_of_invalid {s : State} {m : Byte} (hd : s.p.d = true) (hcfg : s.cfg.invalidBcd = .refuse)
    (h : s.a.toNat % 16 > 9 ∨ s.a.toNat / 16 > 9 ∨ m.toNat % 16 > 9 ∨ m.toNat / 16 > 9) :
    refusesBcd s m = true := by
  have hvalid : (validBcd s.a && validBcd m) = false := by
    rw [Bool.and_eq_false_iff, ← Bool.not_eq_true, ← Bool.not_eq_true, validBcd_iff, validBcd_iff]
    omega
  rw [refusesBcd, hd, hcfg, hvalid]
  rfl

/-! ### What ADC and SBC share (R122, R123) -/

section
variable {result : State → Byte → Sum} {i : Instr} {src : Source} {s : State} {m : Byte}

/-- An instruction whose meaning is an addition or subtraction that computes `r`: A, N, V, Z, C and PC, nothing else. -/
theorem exec_of_arithmetic {r : Sum} (hexec : exec i s = finish (arithmetic result src s))
    (ho : i.operand = src.operand) (hread : operandByte src s = .ok m) (hbcd : refusesBcd s m = false)
    (hr : result s m = r) :
    exec i s = .next { s with
      a := r.value, p := { s.p with n := r.n, v := r.v, z := r.z, c := r.c },
      pc := s.pc + BitVec.ofNat 16 i.length } := by
  rw [hexec, length_of_operand ho, ← hr]
  exact finish_next.2 (arithmetic_ok.2 ⟨m, hread, hbcd, rfl⟩)

theorem arithmetic_refused (hread : operandByte src s = .ok m) (hbcd : refusesBcd s m = true) :
    finish (arithmetic result src s) = .refused (.invalidBcd s.a m) := by
  rw [arithmetic, hread, ok_bind, hbcd]
  rfl

end

theorem addResult_binary {s : State} (m : Byte) (hd : s.p.d = false) : addResult s m = addBinary s.a m s.p.c := by
  simp [addResult, hd]

theorem addResult_decimal {s : State} (m : Byte) (hd : s.p.d = true) : addResult s m = addDecimal s.a m s.p.c := by
  simp [addResult, hd]

theorem subResult_binary {s : State} (m : Byte) (hd : s.p.d = false) : subResult s m = subBinary s.a m s.p.c := by
  simp [subResult, hd]

theorem subResult_decimal {s : State} (m : Byte) (hd : s.p.d = true) : subResult s m = subDecimal s.a m s.p.c := by
  simp [subResult, hd]

/-- Settles O24: the two check their operands alike, after the read. -/
theorem invalidBcdIsRefused : Obligations.InvalidBcdIsRefused := by
  intro i src s m hmn ho hread hd hcfg hdigit
  have hbcd := refusesBcd_of_invalid hd hcfg hdigit
  rcases hmn with hm | hm
  · rw [exec_adc hm ho]
    exact arithmetic_refused hread hbcd
  · rw [exec_sbc hm ho]
    exact arithmetic_refused hread hbcd

/-! ### The flags of a sum and of a difference, as numbers -/

/-- Bit 7 of a number is that of its byte. -/
theorem bit7_eq_getLsbD {r : Byte} {t : Nat} (h : r.toNat = t % 256) : bit7 t = r.getLsbD 7 := by
  rw [bit7, getLsbD_eq_decide_toNat, decide_eq_decide]
  omega

theorem byte_beq_zero (r : Byte) : (r == 0) = decide (r.toNat = 0) := by
  rw [beq_eq_decide, decide_eq_decide]
  exact ⟨fun h => h ▸ rfl, fun h => BitVec.eq_of_toNat_eq h⟩

/-- The operands agree in sign and the sum does not, exactly where the signed sum leaves -128..127 (R122). -/
theorem addOverflow_eq_signed (a m : Byte) (c : Bool) :
    addOverflow a m (a.toNat + m.toNat + c.toNat) =
      decide (a.toInt + m.toInt + c.toNat < -128 ∨ a.toInt + m.toInt + c.toNat > 127) := by
  have ha := a.isLt
  have hm := m.isLt
  have hc := c.toNat_le
  rw [BitVec.toInt_eq_toNat_cond, BitVec.toInt_eq_toNat_cond, Bool.eq_iff_iff]
  simp only [addOverflow, bit7, Bool.and_eq_true, beq_iff_eq, bne_iff_ne, ne_eq, decide_eq_decide, decide_eq_true_eq]
  split <;> split <;> omega


/-! ### ADC (R122) -/

theorem addBinary_eq {a m r : Byte} {c : Bool} (hr : r.toNat = (a.toNat + m.toNat + c.toNat) % 256) :
    addBinary a m c =
      { value := r
        n := r.getLsbD 7
        v := decide (a.toInt + m.toInt + c.toNat < -128 ∨ a.toInt + m.toInt + c.toNat > 127)
        z := r == 0
        c := decide (a.toNat + m.toNat + c.toNat > 255) } := by
  rw [addBinary, ofNat_eq_of_toNat hr, bit7_eq_getLsbD hr, addOverflow_eq_signed, byte_beq_zero, beq_eq_decide, ← hr]

/-- Settles O18: the byte and the flags of `addBinary` are those that the statement gives as numbers. -/
theorem adcBinaryAddsWithCarry : Obligations.AdcBinaryAddsWithCarry := by
  intro i src s m r hm ho hread hd hr
  exact exec_of_arithmetic (exec_adc hm ho) ho hread (refusesBcd_of_binary m hd)
    ((addResult_binary m hd).trans (addBinary_eq hr))

/-- The formula's overflow flag, in the source's exclusive ors (R122). -/
theorem addOverflow_eq_xor (a m : Byte) (t : Nat) :
    addOverflow a m t = ((a ^^^ m).getLsbD 7 == false && (a ^^^ BitVec.ofNat 8 t).getLsbD 7) := by
  have ha : bit7 a.toNat = a.getLsbD 7 := bit7_eq_getLsbD (by omega)
  have hm : bit7 m.toNat = m.getLsbD 7 := bit7_eq_getLsbD (by omega)
  have ht : bit7 t = (BitVec.ofNat 8 t).getLsbD 7 := bit7_eq_getLsbD (BitVec.toNat_ofNat t 8)
  rw [addOverflow, ha, hm, ht, BitVec.getLsbD_xor, BitVec.getLsbD_xor]
  cases a.getLsbD 7 <;> cases m.getLsbD 7 <;> rfl

/-- The formula with each of its three sums named: the binary one, that after the low-digit correction, the last. -/
theorem addDecimal_eq_formula {a m : Byte} {c : Bool} {t t6 t60 : Nat} (ht : t = a.toNat + m.toNat + c.toNat)
    (ht6 : t6 = if a.toNat % 16 + m.toNat % 16 + c.toNat > 9 then t + 6 else t)
    (ht60 : t60 = if t6 > 0x99 then t6 + 0x60 else t6) :
    addDecimal a m c =
      { value := BitVec.ofNat 8 t60
        n := t6.testBit 7
        v := (a ^^^ m).getLsbD 7 == false && (a ^^^ BitVec.ofNat 8 t6).getLsbD 7
        z := decide (t % 256 = 0)
        c := decide (t60 > 0x99) } := by
  rw [addDecimal, ← ht, ← ht6, ← ht60, addOverflow_eq_xor, Nat.testBit_eq_decide_div_mod_eq, beq_eq_decide]
  rfl

/-- Settles O20: the model computes the formula, and only writes its flags otherwise. -/
theorem adcDecimalFollowsTheFormula : Obligations.AdcDecimalFollowsTheFormula := by
  intro i src s m t t6 t60 hm ho hread hd hbcd ht ht6 ht60
  exact exec_of_arithmetic (exec_adc hm ho) ho hread (refusesBcd_of_formula hbcd)
    ((addResult_decimal m hd).trans (addDecimal_eq_formula ht ht6 ht60))

/-- A byte holds the BCD code of two decimal digits (R12). -/
def HoldsDigits (v : Byte) (high low : Nat) : Prop := high ≤ 9 ∧ low ≤ 9 ∧ v.toNat = 16 * high + low

theorem holdsDigits_of_validBcd {v : Byte} (h : validBcd v = true) : HoldsDigits v (v.toNat / 16) (v.toNat % 16) := by
  obtain ⟨hlow, hhigh⟩ := validBcd_iff.1 h
  exact ⟨hhigh, hlow, by omega⟩

theorem HoldsDigits.valid {v : Byte} {high low : Nat} (h : HoldsDigits v high low) : validBcd v = true := by
  obtain ⟨hhigh, hlow, hv⟩ := h
  rw [validBcd_iff]
  omega

theorem HoldsDigits.value {v : Byte} {high low : Nat} (h : HoldsDigits v high low) :
    bcdValue v = 10 * high + low := by
  obtain ⟨hhigh, hlow, hv⟩ := h
  rw [bcdValue]
  omega

/-- On BCD operands each correction carries ten of its digit into the next place, the high one into C: with `low` and
`high` the sums of the two places, the result byte holds their last digits. -/
theorem addDecimal_of_digits {a m : Byte} {c : Bool} {ah al mh ml low high : Nat} (ha : HoldsDigits a ah al)
    (hm : HoldsDigits m mh ml) (hlow : low = al + ml + c.toNat) (hhigh : high = ah + mh + low / 10) :
    HoldsDigits (addDecimal a m c).value (high % 10) (low % 10) ∧ (addDecimal a m c).c = decide (high > 9) := by
  obtain ⟨hah, hal, ha⟩ := ha
  obtain ⟨hmh, hml, hm⟩ := hm
  have hc := c.toNat_le
  have hsix : (if a.toNat % 16 + m.toNat % 16 + c.toNat > 9 then a.toNat + m.toNat + c.toNat + 6
      else a.toNat + m.toNat + c.toNat) = 16 * high + low % 10 := by
    split <;> omega
  have hsixty : (if 16 * high + low % 10 > 0x99 then 16 * high + low % 10 + 0x60 else 16 * high + low % 10) =
      256 * (high / 10) + 16 * (high % 10) + low % 10 := by
    split <;> omega
  have hcarry : high / 10 = 0 ∨ high / 10 = 1 := by omega
  simp only [addDecimal, hsix, hsixty, HoldsDigits, BitVec.toNat_ofNat, decide_eq_decide]
  omega

/-- Settles O19: the digits of the result are the last two of the sum, and C stands for its hundred. -/
theorem adcDecimalIsTheBcdSum : Obligations.AdcDecimalIsTheBcdSum := by
  intro i src s m n hm ho hread hd ha hv hn
  have hda := holdsDigits_of_validBcd ha
  have hdm := holdsDigits_of_validBcd hv
  obtain ⟨hdigits, hcarry⟩ := addDecimal_of_digits (c := s.p.c) hda hdm rfl rfl
  rw [hda.value, hdm.value] at hn
  refine ⟨_, exec_of_arithmetic (exec_adc hm ho) ho hread (refusesBcd_of_formula (.inr ⟨ha, hv⟩))
    (addResult_decimal m hd), hdigits.valid, hdigits.value.trans ?_, hcarry.trans ?_, rfl⟩
  · omega
  · rw [decide_eq_decide]
    omega

/-! ### SBC (R123) -/

theorem borrow_eq (c : Bool) : borrow c = if c then 0 else 1 := by
  cases c <;> rfl

theorem ofInt_eq_of_toNat {r : Byte} {t : Int} (h : (r.toNat : Int) = t % 256) : BitVec.ofInt 8 t = r :=
  BitVec.eq_of_toNat_eq (by rw [BitVec.toNat_ofInt]; omega)

/-- The byte of a difference, given as a number without a sign. -/
theorem ofInt_difference {a m r : Byte} {c : Bool} (hr : r.toNat = (a.toNat + 256 - m.toNat + 256 - borrow c) % 256) :
    BitVec.ofInt 8 (difference a m c) = r := by
  have ha := a.isLt
  have hm := m.isLt
  have hb : borrow c ≤ 1 := (!c).toNat_le
  exact ofInt_eq_of_toNat (by rw [difference]; omega)

/-- The operands differ in sign and so do A and the difference, exactly where the signed difference leaves -128..127
(R123). -/
theorem subOverflow_eq_signed {a m r : Byte} {c : Bool}
    (hr : r.toNat = (a.toNat + 256 - m.toNat + 256 - borrow c) % 256) :
    subOverflow a m r =
      decide (a.toInt - m.toInt - borrow c < -128 ∨ a.toInt - m.toInt - borrow c > 127) := by
  have ha := a.isLt
  have hm := m.isLt
  have hb : borrow c ≤ 1 := (!c).toNat_le
  rw [BitVec.toInt_eq_toNat_cond, BitVec.toInt_eq_toNat_cond, Bool.eq_iff_iff]
  simp only [subOverflow, getLsbD_eq_decide_toNat, Bool.and_eq_true, bne_iff_ne, ne_eq, decide_eq_decide,
    decide_eq_true_eq]
  split <;> split <;> omega

/-- N, V and Z of a subtraction are those of the binary difference, whatever becomes A and C (R123, D21). -/
theorem subtractTo_eq {a m r : Byte} {c : Bool} (t : Int)
    (hr : r.toNat = (a.toNat + 256 - m.toNat + 256 - borrow c) % 256) :
    subtractTo a m c t =
      { value := BitVec.ofInt 8 t
        n := r.getLsbD 7
        v := decide (a.toInt - m.toInt - borrow c < -128 ∨ a.toInt - m.toInt - borrow c > 127)
        z := r == 0
        c := decide (0 ≤ t ∧ t < 256) } := by
  rw [subtractTo, ofInt_difference hr, subOverflow_eq_signed hr]

theorem subBinary_eq {a m r : Byte} {c : Bool}
    (hr : r.toNat = (a.toNat + 256 - m.toNat + 256 - borrow c) % 256) :
    subBinary a m c =
      { value := r
        n := r.getLsbD 7
        v := decide (a.toInt - m.toInt - borrow c < -128 ∨ a.toInt - m.toInt - borrow c > 127)
        z := r == 0
        c := decide (a.toNat ≥ m.toNat + borrow c) } := by
  have ha := a.isLt
  have hcarry : decide (0 ≤ difference a m c ∧ difference a m c < 256) = decide (a.toNat ≥ m.toNat + borrow c) := by
    rw [difference, decide_eq_decide]
    omega
  rw [subBinary, subtractTo_eq _ hr, ofInt_difference hr, hcarry]

/-- Settles O21: the byte and the flags of `subBinary` are those that the statement gives as numbers. -/
theorem sbcBinarySubtractsWithBorrow : Obligations.SbcBinarySubtractsWithBorrow := by
  intro i src s m r b hm ho hread hd hb hr
  rw [← borrow_eq] at hb
  subst hb
  exact exec_of_arithmetic (exec_sbc hm ho) ho hread (refusesBcd_of_binary m hd)
    ((subResult_binary m hd).trans (subBinary_eq hr))

/-- The formula with its difference named before, between and after the two corrections. -/
theorem subDecimal_eq_formula {a m r : Byte} {c : Bool} {t t6 t60 : Int} (ht : t = a.toNat - m.toNat - borrow c)
    (hr : r = BitVec.ofInt 8 t)
    (ht6 : t6 = if ((a.toNat % 16 : Nat) : Int) - borrow c < ((m.toNat % 16 : Nat) : Int) then t - 6 else t)
    (ht60 : t60 = if t6 < 0 ∨ t6 > 0x99 then t6 - 0x60 else t6) :
    subDecimal a m c =
      { value := BitVec.ofInt 8 t60
        n := r.getLsbD 7
        v := (a ^^^ r).getLsbD 7 && (a ^^^ m).getLsbD 7
        z := r == 0
        c := decide (0 ≤ t60 ∧ t60 < 256) } := by
  have hdecimal : decimalDifference a m c = t60 := by
    rw [ht60, ht6, ht]
    rfl
  have hbyte : BitVec.ofInt 8 (difference a m c) = r := by
    rw [hr, ht]
    rfl
  have hover : subOverflow a m r = ((a ^^^ r).getLsbD 7 && (a ^^^ m).getLsbD 7) := by
    rw [BitVec.getLsbD_xor, BitVec.getLsbD_xor]
    rfl
  rw [subDecimal, subtractTo, hdecimal, hbyte, hover]

/-- Settles O23: the model computes the formula, and only writes its overflow flag otherwise. -/
theorem sbcDecimalFollowsTheFormula : Obligations.SbcDecimalFollowsTheFormula := by
  intro i src s m r b t t6 t60 hm ho hread hd hbcd hb ht hr ht6 ht60
  obtain rfl : b = borrow s.p.c := by
    rw [hb, borrow_eq]
    split <;> rfl
  exact exec_of_arithmetic (exec_sbc hm ho) ho hread (refusesBcd_of_formula hbcd)
    ((subResult_decimal m hd).trans (subDecimal_eq_formula ht hr ht6 ht60))

/-- On BCD operands each correction borrows ten of its digit from the next place: with `low` and `high` the differences
of the two places, the corrected difference holds their last digits, above a borrow out of the high place. -/
theorem decimalDifference_of_digits {a m : Byte} {c : Bool} {ah al mh ml : Nat} {low high : Int}
    (ha : HoldsDigits a ah al) (hm : HoldsDigits m mh ml) (hlow : low = al - ml - borrow c)
    (hhigh : high = ah - mh + low / 10) :
    decimalDifference a m c = 256 * (high / 10) + 16 * (high % 10) + low % 10 := by
  obtain ⟨hah, hal, ha⟩ := ha
  obtain ⟨hmh, hml, hm⟩ := hm
  have hb : borrow c ≤ 1 := (!c).toNat_le
  have hsix : (if ((a.toNat % 16 : Nat) : Int) - borrow c < ((m.toNat % 16 : Nat) : Int) then difference a m c - 6
      else difference a m c) = 16 * high + low % 10 := by
    rw [difference]
    split <;> omega
  simp only [decimalDifference, hsix]
  split <;> omega

/-- The result byte is the BCD code of the difference modulo 100; the corrected difference is a byte, and C is set,
exactly where no hundred was borrowed. -/
theorem decimalDifference_of_validBcd {a m : Byte} (c : Bool) (ha : validBcd a = true) (hm : validBcd m = true) :
    validBcd (BitVec.ofInt 8 (decimalDifference a m c)) = true ∧
      bcdValue (BitVec.ofInt 8 (decimalDifference a m c)) = (bcdValue a + 200 - bcdValue m - borrow c) % 100 ∧
      ((0 ≤ decimalDifference a m c ∧ decimalDifference a m c < 256) ↔ bcdValue a ≥ bcdValue m + borrow c) := by
  have hb : borrow c ≤ 1 := (!c).toNat_le
  have hda := holdsDigits_of_validBcd ha
  have hdm := holdsDigits_of_validBcd hm
  obtain ⟨low, hlow⟩ : ∃ low : Int, low = (a.toNat % 16 : Nat) - (m.toNat % 16 : Nat) - borrow c := ⟨_, rfl⟩
  obtain ⟨high, hhigh⟩ : ∃ high : Int, high = (a.toNat / 16 : Nat) - (m.toNat / 16 : Nat) + low / 10 := ⟨_, rfl⟩
  have hdiff := decimalDifference_of_digits hda hdm hlow hhigh
  have hdigits : HoldsDigits (BitVec.ofInt 8 (decimalDifference a m c)) (high % 10).toNat (low % 10).toNat := by
    simp only [HoldsDigits, BitVec.toNat_ofInt]
    omega
  rw [hdigits.value, hda.value, hdm.value, hdiff]
  obtain ⟨hahigh, halow, -⟩ := hda
  obtain ⟨hmhigh, hmlow, -⟩ := hdm
  have hborrowed : high / 10 = 0 ∨ high / 10 = -1 := by omega
  refine ⟨hdiff ▸ hdigits.valid, ?_, ?_⟩ <;> omega

/-- Settles O22: A and C from the corrected difference, N, V and Z from the binary one. -/
theorem sbcDecimalIsTheBcdDifference : Obligations.SbcDecimalIsTheBcdDifference := by
  intro i src s m r b hm ho hread hd ha hv hb hr
  rw [← borrow_eq] at hb
  subst hb
  obtain ⟨hvalid, hvalue, hcarry⟩ := decimalDifference_of_validBcd s.p.c ha hv
  refine ⟨_, exec_of_arithmetic (exec_sbc hm ho) ho hread (refusesBcd_of_formula (.inr ⟨ha, hv⟩))
    ((subResult_decimal m hd).trans (subtractTo_eq _ hr)), hvalid, hvalue, ?_⟩
  rw [decide_eq_decide.2 hcarry]

end Sys2Proof.Machine

/-! The statement of 42_flag_ops.md: the seven instructions that set or clear one flag. -/

namespace Sys2Proof.Machine

/-- An instruction without an operand is its opcode byte alone (R80), and takes the cycles of its cell of the
execution-time table where that carries no mark (R271). -/
theorem oneByteForm_of_implied {i : Instr} {op : Byte} {n : Nat} (ho : i.operand = .implied) (hop : i.opcode = op)
    (hcell : cycleCell i = (n, .none)) : oneByteForm i op n := by
  have hencode : encode i = [op] := by
    rw [encode, ho, hop]
    rfl
  refine ⟨hencode, ?_, fun s => ?_⟩
  · simpa [hencode] using Laws.decode_encode i []
  · rw [cycles, hcell]
    rfl

/-- The common rule of the flag instructions writes P and moves PC past the one byte. -/
theorem writeFlags_eq (p : Status) (s : State) : writeFlags p s = .ok { s with p := p, pc := s.pc + 1 } := rfl

/-- An instruction whose meaning is to write `p` to P: P and PC, nothing else. -/
theorem exec_of_writeFlags {i : Instr} {s : State} {p : Status}
    (hmeaning : meaning i.mnemonic i.operand s = writeFlags p s) :
    exec i s = .next { s with p := p, pc := s.pc + 1 } := by
  rw [exec_eq_meaning, hmeaning, writeFlags_eq, finish_ok]

/-- Settles O26: each of the seven has the implied form, and writes P as it was but for its own flag. -/
theorem flagInstructionsWriteOneBit : Obligations.FlagInstructionsWriteOneBit := by
  refine ⟨?forms, fun s => ?writes⟩
  case forms =>
    refine ⟨?_, ?_, ?_, ?_, ?_, ?_, ?_⟩ <;> exact oneByteForm_of_implied rfl rfl rfl
  case writes =>
    refine ⟨?_, ?_, ?_, ?_, ?_, ?_, ?_⟩ <;> exact exec_of_writeFlags rfl

end Sys2Proof.Machine

/-! The compares and the bit test of 43_branch_test.md, with the compares of the index registers (44_index_ops.md). -/

namespace Sys2Proof.Machine

/-- The 8-bit difference is zero exactly where the register equals the byte (R150). -/
theorem compareFlags_eq (p : Status) (r m : Byte) :
    compareFlags p r m =
      { p with n := (r - m).getLsbD 7, z := decide (r = m), c := decide (m.toNat ≤ r.toNat) } := by
  have hz : (r - m == 0) = decide (r = m) := by
    rw [beq_eq_decide, decide_eq_decide]
    exact sub_eq_zero
  rw [← hz]
  rfl

/-- An instruction whose meaning is the comparison of a register that holds `r`: N, Z, C and PC, nothing else. -/
theorem exec_of_compareRegister {i : Instr} {src : Source} {s : State} {r m : Byte}
    (hexec : exec i s = finish (compareRegister r src s)) (ho : i.operand = src.operand)
    (hread : operandByte src s = .ok m) :
    exec i s = .next { s with
      p := { s.p with n := (r - m).getLsbD 7, z := decide (r = m), c := decide (m.toNat ≤ r.toNat) }
      pc := s.pc + BitVec.ofNat 16 i.length } := by
  rw [hexec, length_of_operand ho, ← compareFlags_eq]
  exact finish_next.2 (compareRegister_ok.2 ⟨m, hread, rfl⟩)

/-- Settles O29: the three compares differ in the register they read. -/
theorem comparesSetThreeFlags : Obligations.ComparesSetThreeFlags := by
  rintro i src s r m ho hread (⟨hm, rfl⟩ | ⟨hm, rfl⟩ | ⟨hm, rfl⟩)
  · exact exec_of_compareRegister (exec_cmp hm ho) ho hread
  · exact exec_of_compareRegister (exec_cpx hm ho) ho hread
  · exact exec_of_compareRegister (exec_cpy hm ho) ho hread

/-- Settles O30: BIT writes `bitFlags` of the byte it reads, and moves PC by the length of its form. -/
theorem bitTestCopiesTopBits : Obligations.BitTestCopiesTopBits := by
  intro i mode s m hm ho hread
  rw [exec_bit hm ho, length_of_operand ho]
  exact finish_next.2 (bitTest_ok.2 ⟨m, hread, rfl⟩)

end Sys2Proof.Machine

/-! The statements of 44_index_ops.md, with the transfers of the stack pointer (45_stack_subroutine.md). -/

namespace Sys2Proof.Machine

/-! ### One rule per register written (R36) -/

theorem exec_of_meaning_ok {i : Instr} {s t : State} (hmeaning : meaning i.mnemonic i.operand s = .ok t) :
    exec i s = .next t := by
  rw [exec_eq_meaning, hmeaning, finish_ok]

section
variable {i : Instr} {s : State} {v : Byte}

/-- An instruction whose meaning is to write `v` to A: A, N, Z and PC, nothing else. -/
theorem exec_of_writeA (hmeaning : meaning i.mnemonic i.operand s = writeA v s) :
    exec i s = .next { s with a := v, p := { s.p with n := v.getLsbD 7, z := v == 0 }, pc := s.pc + 1 } :=
  exec_of_meaning_ok hmeaning

/-- An instruction whose meaning is to write `v` to X: X, N, Z and PC, nothing else. -/
theorem exec_of_writeX (hmeaning : meaning i.mnemonic i.operand s = writeX v s) :
    exec i s = .next { s with x := v, p := { s.p with n := v.getLsbD 7, z := v == 0 }, pc := s.pc + 1 } :=
  exec_of_meaning_ok hmeaning

/-- An instruction whose meaning is to write `v` to Y: Y, N, Z and PC, nothing else. -/
theorem exec_of_writeY (hmeaning : meaning i.mnemonic i.operand s = writeY v s) :
    exec i s = .next { s with y := v, p := { s.p with n := v.getLsbD 7, z := v == 0 }, pc := s.pc + 1 } :=
  exec_of_meaning_ok hmeaning

end

/-- TSX is a write of X like the other transfers, though it stands with the stack instructions (R187). -/
theorem transferSpToX_eq_writeX (s : State) : transferSpToX s = writeX s.sp s := rfl

/-- TXS writes no flag (R186). -/
theorem transferXToSp_eq (s : State) : transferXToSp s = .ok { s with sp := s.x, pc := s.pc + 1 } := rfl

/-! ### Counting modulo 256 -/

theorem add_one_eq_of_toNat {m r : Byte} (hr : r.toNat = (m.toNat + 1) % 256) : m + 1 = r :=
  congrArg Shifted.value (increment_eq (k := false) hr rfl)

theorem sub_one_eq_of_toNat {m r : Byte} (hr : r.toNat = (m.toNat + 255) % 256) : m - 1 = r :=
  congrArg Shifted.value (decrement_eq (k := false) hr rfl)

/-! ### The obligations -/

/-- Settles O31: each of the four has the implied form, and writes its own register, moved by one, to that register. -/
theorem indexRegistersCountModulo256 : Obligations.IndexRegistersCountModulo256 := by
  refine ⟨?forms, fun s v => ⟨fun hx => ?inx, fun hy => ?iny, fun hx => ?dex, fun hy => ?dey⟩⟩
  case forms =>
    refine ⟨?_, ?_, ?_, ?_⟩ <;> exact oneByteForm_of_implied rfl rfl rfl
  case inx =>
    obtain rfl := add_one_eq_of_toNat hx
    exact exec_of_writeX rfl
  case iny =>
    obtain rfl := add_one_eq_of_toNat hy
    exact exec_of_writeY rfl
  case dex =>
    obtain rfl := sub_one_eq_of_toNat hx
    exact exec_of_writeX rfl
  case dey =>
    obtain rfl := sub_one_eq_of_toNat hy
    exact exec_of_writeY rfl

/-- Settles O32: each of the six has the implied form; five write a register with its flags, TXS the stack pointer
alone. -/
theorem transfersCopyARegister : Obligations.TransfersCopyARegister := by
  refine ⟨?forms, fun s => ⟨?tax, ?txa, ?tay, ?tya, ?txs, ?tsx⟩⟩
  case forms =>
    refine ⟨?_, ?_, ?_, ?_, ?_, ?_⟩ <;> exact oneByteForm_of_implied rfl rfl rfl
  case tax => exact exec_of_writeX rfl
  case txa => exact exec_of_writeA rfl
  case tay => exact exec_of_writeY rfl
  case tya => exact exec_of_writeA rfl
  case txs => exact exec_of_meaning_ok (transferXToSp_eq s)
  case tsx => exact exec_of_writeX (transferSpToX_eq_writeX s)

end Sys2Proof.Machine

/-! The statements of 45_stack_subroutine.md: what one push and one pull do, subroutine call and return, the pushes and
pulls of A and P, and that a pull undoes the push before it. -/

namespace Sys2Proof.Machine

/-! ### The places of the stack (R24, R180, R181) -/

/-- The stack is the page above the zero page. -/
theorem stackAddr_toNat (p : Byte) : (stackAddr p).toNat = 256 + p.toNat := by
  simp [stackAddr, stackPage, word_toNat]

/-- After `j + k` pushes the `k`-th pull is at the place of push `j`. -/
theorem pullSlot_eq_pushSlot {s t : State} (j k : Nat) (hsp : t.sp = s.sp - BitVec.ofNat 8 (j + k)) :
    pullSlot t k = pushSlot s j := by
  rw [pullSlot, pushSlot, stackAddr_inj, hsp, BitVec.ofNat_add]
  bv_omega

theorem storedByte_of_isWritable {s : State} {addr : Word} (v : Byte) (h : s.isWritable addr = true) :
    storedByte s addr v = v :=
  if_pos h

/-! ### Pushes and pulls (R180, R181) -/

section
variable {s : State}

/-- A push at a place that is no device's: SP, and memory at that place, where it is writable. -/
theorem push_writesSlot (v : Byte) (hio : s.isIo (pushSlot s 0) = false) :
    ∃ m, push v s = .ok { s with sp := s.sp - 1, mem := m } ∧
      (s.withMem m).byteAt (pushSlot s 0) = storedByte s (pushSlot s 0) v ∧
      sameMemoryOutside [pushSlot s 0] s (s.withMem m) := by
  rw [pushSlot_zero] at hio ⊢
  obtain ⟨m, hpush, hbyte, -⟩ := push_spec v hio
  exact ⟨m, hpush, (hbyte _).trans (if_pos rfl), fun a ha => (hbyte a).trans (if_neg (by simpa using ha))⟩

/-- A pull from a place that is no device's: SP alone. -/
theorem pull_readsSlot (hio : s.isIo (pullSlot s 1) = false) :
    pull s = .ok (s.byteAt (pullSlot s 1), { s with sp := s.sp + 1 }) :=
  pull_eq hio

/-- Pushing a word at two places that are no device's: the second push leaves the first place alone. -/
theorem pushWord_writesSlots (w : Word) (hio : accessible s [pushSlot s 0, pushSlot s 1]) :
    ∃ m, pushWord w s = .ok { s with sp := s.sp - 2, mem := m } ∧
      (s.withMem m).byteAt (pushSlot s 0) = storedByte s (pushSlot s 0) (hiByte w) ∧
      (s.withMem m).byteAt (pushSlot s 1) = storedByte s (pushSlot s 1) (loByte w) ∧
      sameMemoryOutside [pushSlot s 0, pushSlot s 1] s (s.withMem m) := by
  simp only [accessible_cons, accessible_nil, and_true] at hio
  obtain ⟨hio0, hio1⟩ := hio
  obtain ⟨m, hhigh, hbyte, hout⟩ := push_writesSlot (hiByte w) hio0
  obtain ⟨u, hu⟩ : ∃ u : State, u = { s with sp := s.sp - 1, mem := m } := ⟨_, rfl⟩
  have hslot : pushSlot u 0 = pushSlot s 1 := by
    rw [pushSlot_zero, pushSlot_one, hu]
  have hne : pushSlot s 0 ≠ pushSlot s 1 := by
    rw [pushSlot_zero, pushSlot_one]
    exact (stackAddr_distinct s.sp).1
  rw [← hu] at hhigh
  obtain ⟨m', hlow, hbyte', hout'⟩ := push_writesSlot (s := u) (loByte w) (by rw [hslot, hu]; exact hio1)
  rw [hslot] at hbyte' hout'
  subst hu
  have hkept : ∀ a, a ≠ pushSlot s 1 → (s.withMem m').byteAt a = (s.withMem m).byteAt a :=
    fun a ha => hout' a (by simpa using ha)
  refine ⟨m', ?_, (hkept _ hne).trans hbyte, hbyte'.trans ?_, fun a ha => ?_⟩
  · rw [pushWord_ok.2 ⟨_, hhigh, hlow⟩, show s.sp - 2 = s.sp - 1 - 1 by bv_omega]
  · rw [storedByte, storedByte, ← hout (pushSlot s 1) (by simpa using hne.symm)]
    rfl
  · simp only [List.mem_cons, List.not_mem_nil, or_false, not_or] at ha
    obtain ⟨ha0, ha1⟩ := ha
    exact (hkept a ha1).trans (hout a (by simpa using ha0))

/-- Pulling a word from two places that are no device's: SP alone. -/
theorem pullWord_readsSlots (hio : accessible s [pullSlot s 1, pullSlot s 2]) :
    pullWord s = .ok (word (s.byteAt (pullSlot s 1)) (s.byteAt (pullSlot s 2)), { s with sp := s.sp + 2 }) := by
  simp only [accessible_cons, accessible_nil, and_true, pullSlot_one, pullSlot_two] at hio ⊢
  obtain ⟨hio1, hio2⟩ := hio
  rw [show s.sp + 2 = s.sp + 1 + 1 by bv_omega]
  exact pullWord_ok.2 ⟨_, _, _, pull_eq hio1, pull_eq (s := s.withSp (s.sp + 1)) hio2, rfl⟩

/-- A pull right after a push answers the byte that the push left at its place, and SP is as it was. -/
theorem pull_of_pushed {v : Byte} {m : Memory} (pc : Word) (hio : accessible s [pushSlot s 0])
    (hbyte : (s.withMem m).byteAt (pushSlot s 0) = v) :
    pull { s with sp := s.sp - 1, pc := pc, mem := m } = .ok (v, { s with pc := pc, mem := m }) := by
  have hpull := pull_readsSlot (s := { s with sp := s.sp - 1, pc := pc, mem := m })
  rw [pullSlot_eq_pushSlot (s := s) 0 1 rfl] at hpull
  have hsp : s.sp - 1 + 1 = s.sp := by bv_omega
  rw [hpull (hio _ (by simp)), ← hbyte]
  simp only [hsp]
  rfl

/-- A word is pulled low byte first, the other way round than it was pushed. -/
theorem pullWord_of_pushed {w : Word} {m : Memory} (pc : Word) (hio : accessible s [pushSlot s 0, pushSlot s 1])
    (hhigh : (s.withMem m).byteAt (pushSlot s 0) = hiByte w)
    (hlow : (s.withMem m).byteAt (pushSlot s 1) = loByte w) :
    pullWord { s with sp := s.sp - 2, pc := pc, mem := m } = .ok (w, { s with pc := pc, mem := m }) := by
  have hpull := pullWord_readsSlots (s := { s with sp := s.sp - 2, pc := pc, mem := m })
  rw [pullSlot_eq_pushSlot (s := s) 1 1 rfl, pullSlot_eq_pushSlot (s := s) 0 2 rfl] at hpull
  have hio' : accessible s [pushSlot s 1, pushSlot s 0] := by simpa [and_comm] using hio
  have hsp : s.sp - 2 + 2 = s.sp := by bv_omega
  rw [hpull hio', ← word_loByte_hiByte w, ← hhigh, ← hlow]
  simp only [hsp]
  rfl

end

/-- Settles O13, from the one place that a push or a pull uses and the stack page as numbers. -/
theorem pushAndPullUseTheStackPage : Obligations.PushAndPullUseTheStackPage := by
  intro s v
  refine ⟨?pushPlace, ?pullPlace, fun hio => ?push, fun hio => ⟨_, pull_readsSlot hio, rfl, ?pullSp⟩⟩
  case pushPlace => rw [pushSlot_zero, stackAddr_toNat]
  case pullPlace => rw [pullSlot_one, stackAddr_toNat, BitVec.toNat_add]; rfl
  case push =>
    obtain ⟨m, hpush, hbyte, hout⟩ := push_writesSlot v hio
    exact ⟨_, hpush, rfl, by simp only; bv_omega, hbyte, hout⟩
  case pullSp => exact BitVec.toNat_add s.sp 1

/-! ### Subroutine call and return (R182, R183) -/

/-- JSR at stack places that are no device's: SP, PC and the two places of its return address. -/
theorem exec_jsr {s : State} (lo hi : Byte) (hio : accessible s [pushSlot s 0, pushSlot s 1]) :
    ∃ m, exec (.jsr lo hi) s = .next { s with sp := s.sp - 2, pc := word lo hi, mem := m } ∧
      (s.withMem m).byteAt (pushSlot s 0) = storedByte s (pushSlot s 0) (hiByte (s.pc + 2)) ∧
      (s.withMem m).byteAt (pushSlot s 1) = storedByte s (pushSlot s 1) (loByte (s.pc + 2)) ∧
      sameMemoryOutside [pushSlot s 0, pushSlot s 1] s (s.withMem m) := by
  obtain ⟨m, hpush, hbytes⟩ := pushWord_writesSlots (s.pc + 2) hio
  exact ⟨m, exec_of_meaning_ok (jumpSubroutine_ok.2 ⟨_, hpush, rfl⟩), hbytes⟩

/-- Settles O33, from the two pushes of JSR. -/
theorem jsrPushesItsLastAddress : Obligations.JsrPushesItsLastAddress := by
  intro s lo hi hio
  obtain ⟨m, hexec, hbytes⟩ := exec_jsr lo hi hio
  exact ⟨_, hexec, rfl, hbytes⟩

/-- Settles O34, from the two pulls of RTS. -/
theorem rtsGoesPastThePulledAddress : Obligations.RtsGoesPastThePulledAddress := by
  intro s hio
  exact exec_of_meaning_ok (returnSubroutine_ok.2 ⟨_, _, pullWord_readsSlots hio, rfl⟩)

/-- Settles O35: the JSR that answers shows its two places to be no device's, and the RTS pulls from those places. -/
theorem rtsUndoesJsr : Obligations.RtsUndoesJsr := by
  intro s t lo hi hjsr hw0 hw1
  have hio : accessible s [pushSlot s 0, pushSlot s 1] := jumpSubroutine_reaches (finish_next.1 hjsr)
  obtain ⟨m, hexec, hhigh, hlow, -⟩ := exec_jsr lo hi hio
  obtain rfl := Host.Outcome.next.inj (hexec.symm.trans hjsr)
  rw [storedByte_of_isWritable _ hw0] at hhigh
  rw [storedByte_of_isWritable _ hw1] at hlow
  have hpc : s.pc + 2 + 1 = s.pc + 3 := by bv_omega
  rw [← hpc]
  exact exec_of_meaning_ok (returnSubroutine_ok.2 ⟨_, _, pullWord_of_pushed _ hio hhigh hlow, rfl⟩)

/-! ### Pushes and pulls of A and P (R184, R185, R188, R189) -/

/-- PHA at a stack place that is no device's: SP, PC and that place. -/
theorem exec_pha {s : State} (hio : accessible s [pushSlot s 0]) :
    ∃ m, exec .pha s = .next { s with sp := s.sp - 1, pc := s.pc + 1, mem := m } ∧
      (s.withMem m).byteAt (pushSlot s 0) = storedByte s (pushSlot s 0) s.a ∧
      sameMemoryOutside [pushSlot s 0] s (s.withMem m) := by
  obtain ⟨m, hpush, hbytes⟩ := push_writesSlot s.a (hio _ (by simp))
  exact ⟨m, exec_of_meaning_ok (pushA_ok.2 ⟨_, hpush, rfl⟩), hbytes⟩

/-- PHP at a stack place that is no device's: SP, PC and that place. -/
theorem exec_php {s : State} (hio : accessible s [pushSlot s 0]) :
    ∃ m, exec .php s = .next { s with sp := s.sp - 1, pc := s.pc + 1, mem := m } ∧
      (s.withMem m).byteAt (pushSlot s 0) = storedByte s (pushSlot s 0) (pushedStatus s.cfg.bModel s.p) ∧
      sameMemoryOutside [pushSlot s 0] s (s.withMem m) := by
  obtain ⟨m, hpush, hbytes⟩ := push_writesSlot (pushedStatus s.cfg.bModel s.p) (hio _ (by simp))
  exact ⟨m, exec_of_meaning_ok (pushStatus_ok.2 ⟨_, hpush, rfl⟩), hbytes⟩

/-- PLA from a stack place that is no device's: A, SP, N, Z and PC. -/
theorem exec_pla {s : State} (hio : accessible s [pullSlot s 1]) :
    exec .pla s = .next { s with
      a := s.byteAt (pullSlot s 1), sp := s.sp + 1, p := setNZ s.p (s.byteAt (pullSlot s 1)), pc := s.pc + 1 } :=
  exec_of_meaning_ok (pullA_ok.2 ⟨_, _, pull_readsSlot (hio _ (by simp)), rfl⟩)

/-- PLP from a stack place that is no device's: SP, P and PC. -/
theorem exec_plp {s : State} (hio : accessible s [pullSlot s 1]) :
    exec .plp s = .next { s with
      sp := s.sp + 1, p := pulledStatus s.cfg.bModel s.p (s.byteAt (pullSlot s 1)), pc := s.pc + 1 } :=
  exec_of_meaning_ok (pullStatus_ok.2 ⟨_, _, pull_readsSlot (hio _ (by simp)), rfl⟩)

/-- The parameter decides bit 4 of the pushed byte alone (R188, D15). -/
theorem pushedStatus_eq_byteWith (model : BModel) (p : Status) :
    pushedStatus model p = p.byteWith (match model with | .stored => p.b | .pushedOnly => true) := by
  cases model <;> rfl

/-- The parameter decides B alone of the pulled flags (R189, D15). -/
theorem pulledStatus_eq (model : BModel) (p : Status) (v : Byte) :
    pulledStatus model p v =
      { n := v.getLsbD 7, v := v.getLsbD 6, d := v.getLsbD 3, i := v.getLsbD 2, z := v.getLsbD 1, c := v.getLsbD 0
        b := (match model with | .stored => v.getLsbD 4 | .pushedOnly => p.b) } := by
  cases model <;> rfl

/-- Under either parameter a pull of the pushed byte gives P back: B is in the byte, or is left alone. -/
theorem pulledStatus_pushedStatus (model : BModel) (p : Status) : pulledStatus model p (pushedStatus model p) = p := by
  cases model with
  | stored => exact ofByte_toByte p
  | pushedOnly =>
    obtain ⟨hn, hv, -, -, hd, hi, hz, hc⟩ := byteWith_getLsbD p true
    simp only [pulledStatus, pushedStatus, Status.ofByte, hn, hv, hd, hi, hz, hc]

/-- Settles O36: the two differ in the byte they push; that of PHP has its bit 4 from the parameter. -/
theorem pushesWriteOneStackByte : Obligations.PushesWriteOneStackByte := by
  intro s hio
  constructor
  case left =>
    obtain ⟨m, hexec, hbytes⟩ := exec_pha hio
    exact ⟨_, hexec, rfl, hbytes⟩
  case right =>
    obtain ⟨m, hexec, hbytes⟩ := exec_php hio
    rw [pushedStatus_eq_byteWith] at hbytes
    exact ⟨_, hexec, rfl, hbytes⟩

/-- Settles O37: the two differ in where the pulled byte goes; PLP writes B or not by the parameter. -/
theorem pullsReadOneStackByte : Obligations.PullsReadOneStackByte := by
  rintro s _ hio rfl
  refine ⟨exec_pla hio, ?plp⟩
  case plp =>
    have hexec := exec_plp hio
    rw [pulledStatus_eq] at hexec
    exact hexec

/-- Settles O38: each pull gives back what the push stored at its place, which the push shows to be no device's. -/
theorem pullsUndoPushes : Obligations.PullsUndoPushes := by
  intro s t hw
  have hpc : s.pc + 1 + 1 = s.pc + 2 := by bv_omega
  refine ⟨fun hpha => ?pla, fun hphp => ?plp⟩
  case pla =>
    have hio : accessible s [pushSlot s 0] := pushA_reaches (finish_next.1 hpha)
    obtain ⟨m, hexec, hbyte, -⟩ := exec_pha hio
    obtain rfl := Host.Outcome.next.inj (hexec.symm.trans hpha)
    rw [storedByte_of_isWritable _ hw] at hbyte
    rw [← hpc]
    exact exec_of_meaning_ok (pullA_ok.2 ⟨_, _, pull_of_pushed _ hio hbyte, rfl⟩)
  case plp =>
    have hio : accessible s [pushSlot s 0] := pushStatus_reaches (finish_next.1 hphp)
    obtain ⟨m, hexec, hbyte, -⟩ := exec_php hio
    obtain rfl := Host.Outcome.next.inj (hexec.symm.trans hphp)
    rw [storedByte_of_isWritable _ hw] at hbyte
    rw [← hpc]
    refine exec_of_meaning_ok (pullStatus_ok.2 ⟨_, _, pull_of_pushed _ hio hbyte, ?_⟩)
    rw [pulledStatus_pushedStatus]
    rfl

end Sys2Proof.Machine

/-! The statements of 46_break_return_nop.md: the break exception, the return from it, and that the return undoes the
break; no operation. -/

namespace Sys2Proof.Machine

/-! ### P through a break and a return (R223, R191, D15) -/

/-- The parameter decides whether BRK sets B (R223). -/
theorem breakStatus_eq (model : BModel) (p : Status) :
    breakStatus model p = { p with b := (match model with | .stored => true | .pushedOnly => p.b) } := by
  cases model <;> rfl

/-- Under either parameter bit 4 of the byte that BRK pushes is 1: B was set before, or the push supplies it. -/
theorem pushedStatus_breakStatus (model : BModel) (p : Status) :
    pushedStatus model (breakStatus model p) = p.byteWith true := by
  cases model <;> rfl

/-- A pull of the byte of `p`, whatever P is by then: the flags of `p`, and for B the bit 4 it was pushed with, where
B is stored. -/
theorem pulledStatus_byteWith (model : BModel) (p q : Status) (bit4 : Bool) :
    pulledStatus model q (p.byteWith bit4) =
      { p with b := (match model with | .stored => bit4 | .pushedOnly => q.b) } := by
  obtain ⟨hn, hv, -, hb, hd, hi, hz, hc⟩ := byteWith_getLsbD p bit4
  cases model <;> simp only [pulledStatus, Status.ofByte, hn, hv, hb, hd, hi, hz, hc]

/-! ### Break (R190, R223) -/

section
variable {s : State}

/-- BRK with no device at its five addresses: SP, I, B, PC and the three stack places. -/
theorem exec_brk (hio : accessible s [pushSlot s 0, pushSlot s 1, pushSlot s 2, 0xFFFE, 0xFFFF]) :
    ∃ m, exec .brk s = .next { s with
        sp := s.sp - 3, p := { breakStatus s.cfg.bModel s.p with i := true }
        pc := word (s.byteAt 0xFFFE) (s.byteAt 0xFFFF), mem := m } ∧
      (s.withMem m).byteAt (pushSlot s 0) = storedByte s (pushSlot s 0) (hiByte (s.pc + 2)) ∧
      (s.withMem m).byteAt (pushSlot s 1) = storedByte s (pushSlot s 1) (loByte (s.pc + 2)) ∧
      (s.withMem m).byteAt (pushSlot s 2) = storedByte s (pushSlot s 2) (s.p.byteWith true) ∧
      sameMemoryOutside [pushSlot s 0, pushSlot s 1, pushSlot s 2] s (s.withMem m) := by
  obtain ⟨m, henter, hhigh, hlow, hstatus, hout, -⟩ :=
    enterHandler_spec (s := s.withP (breakStatus s.cfg.bModel s.p)) (vector := breakVector) (s.pc + 2)
      (pushedStatus s.cfg.bModel (breakStatus s.cfg.bModel s.p)) hio (by decide) (by decide)
  rw [pushedStatus_breakStatus] at hstatus
  exact ⟨m, exec_of_meaning_ok henter, hhigh, hlow, hstatus, hout⟩

/-! ### Return (R191, R226) -/

/-- RTI with no device at its three stack places: SP, P and PC. -/
theorem exec_rti (hio : accessible s [pullSlot s 1, pullSlot s 2, pullSlot s 3]) :
    exec .rti s = .next { s with
      sp := s.sp + 3, p := pulledStatus s.cfg.bModel s.p (s.byteAt (pullSlot s 1))
      pc := word (s.byteAt (pullSlot s 2)) (s.byteAt (pullSlot s 3)) } := by
  simp only [accessible_cons, accessible_nil, and_true, pullSlot_one, pullSlot_two, pullSlot_three] at hio ⊢
  obtain ⟨hio1, hio2, hio3⟩ := hio
  have hword := pullWord_ok.2 ⟨_, _, _,
    pull_eq (s := (s.withSp (s.sp + 1)).withP (pulledStatus s.cfg.bModel s.p (s.byteAt (stackAddr (s.sp + 1))))) hio2,
    pull_eq hio3, rfl⟩
  rw [show s.sp + 3 = s.sp + 1 + 1 + 1 by bv_omega]
  exact exec_of_meaning_ok (returnFromHandler_ok.2 ⟨_, _, _, _, pull_eq hio1, hword, rfl⟩)

/-- An RTI that finds a return address and a status byte where the entry of a handler pushes them: SP is as before the
entry, PC is that address, P is pulled from that byte. -/
theorem exec_rti_of_pushed {ret : Word} {status : Byte} {m : Memory} (p : Status) (pc : Word)
    (hio : accessible s [pushSlot s 0, pushSlot s 1, pushSlot s 2])
    (hhigh : (s.withMem m).byteAt (pushSlot s 0) = hiByte ret)
    (hlow : (s.withMem m).byteAt (pushSlot s 1) = loByte ret)
    (hstatus : (s.withMem m).byteAt (pushSlot s 2) = status) :
    exec .rti { s with sp := s.sp - 3, p := p, pc := pc, mem := m } =
      .next { s with p := pulledStatus s.cfg.bModel p status, pc := ret, mem := m } := by
  have hrti := exec_rti (s := { s with sp := s.sp - 3, p := p, pc := pc, mem := m })
  rw [pullSlot_eq_pushSlot (s := s) 2 1 rfl, pullSlot_eq_pushSlot (s := s) 1 2 rfl,
    pullSlot_eq_pushSlot (s := s) 0 3 rfl] at hrti
  have hio' : accessible s [pushSlot s 2, pushSlot s 1, pushSlot s 0] := by
    simpa [and_comm, and_assoc] using hio
  have hsp : s.sp - 3 + 3 = s.sp := by bv_omega
  rw [hrti hio', ← word_loByte_hiByte ret, ← hhigh, ← hlow, ← hstatus]
  simp only [hsp]
  rfl

end

/-! ### The obligations -/

/-- Settles O39: the entry of a handler, from a state whose B the break has set. -/
theorem brkTakesTheBreakException : Obligations.BrkTakesTheBreakException := by
  intro s hio
  obtain ⟨m, hexec, hbytes⟩ := exec_brk hio
  rw [breakStatus_eq] at hexec
  exact ⟨_, hexec, rfl, hbytes⟩

/-- Settles O40: three pulls, the parameter deciding B. -/
theorem rtiRestoresStatusAndPc : Obligations.RtiRestoresStatusAndPc := by
  rintro s _ hio rfl
  have hexec := exec_rti hio
  rw [pulledStatus_eq] at hexec
  exact hexec

/-- Settles O41: the BRK that answers shows its addresses to be no device's, and the RTI pulls what it stored there. -/
theorem rtiUndoesBrk : Obligations.RtiUndoesBrk := by
  intro s t hbrk hw0 hw1 hw2
  have hio : accessible s [pushSlot s 0, pushSlot s 1, pushSlot s 2, 0xFFFE, 0xFFFF] :=
    forceBreak_reaches (finish_next.1 hbrk)
  obtain ⟨m, hexec, hhigh, hlow, hstatus, -⟩ := exec_brk hio
  obtain rfl := Host.Outcome.next.inj (hexec.symm.trans hbrk)
  rw [storedByte_of_isWritable _ hw0] at hhigh
  rw [storedByte_of_isWritable _ hw1] at hlow
  rw [storedByte_of_isWritable _ hw2] at hstatus
  have hslots : accessible s [pushSlot s 0, pushSlot s 1, pushSlot s 2] :=
    fun a ha => hio a (List.mem_append_left [0xFFFE, 0xFFFF] ha)
  rw [exec_rti_of_pushed _ _ hslots hhigh hlow hstatus, pulledStatus_byteWith, breakStatus_eq]
  cases s.cfg.bModel <;> rfl

/-- Settles O43: NOP has the implied form, and its meaning is the advance of PC. -/
theorem nopOnlyAdvancesPc : Obligations.NopOnlyAdvancesPc :=
  ⟨oneByteForm_of_implied rfl rfl rfl, fun s => exec_of_meaning_ok (t := s.advance 1) rfl⟩

end Sys2Proof.Machine

/-! The statements of 60_exceptions.md: what a boundary samples, which event it takes, and what each event does; with
the return from an IRQ (46_break_return_nop.md). -/

namespace Sys2Proof.Machine

/-! ### The boundary (R229, R230, R232, R233) -/

section
variable {s : State}

theorem resetRequested_of_ended (h : s.env = []) : resetRequested s = false := by
  simp only [resetRequested, h]

theorem resetRequested_of_entry {e : Boundary} {rest : List Boundary} (h : s.env = e :: rest) :
    resetRequested s = e.reset := by
  simp only [resetRequested, h]

theorem sample_of_ended (h : s.env = []) : sample s = s := by
  simp only [sample, h]

theorem sample_of_entry {e : Boundary} {rest : List Boundary} (h : s.env = e :: rest) :
    sample s = { s with
      env := rest, irqLine := e.irq, nmiPending := s.nmiPending || (s.cfg.hasNmi && e.nmiEdge) } := by
  simp only [sample, h]

theorem dueEvent_of_reset (hreset : resetRequested s = true) : dueEvent s = some .reset :=
  if_pos hreset

theorem dueEvent_of_nmi (hreset : resetRequested s = false)
    (hnmi : ((sample s).cfg.hasNmi && (sample s).nmiPending) = true) : dueEvent s = some .nmi := by
  simp only [dueEvent, hreset, hnmi, Bool.false_eq_true, if_false, if_true]

theorem dueEvent_of_irq (hreset : resetRequested s = false)
    (hnmi : ((sample s).cfg.hasNmi && (sample s).nmiPending) = false)
    (hirq : ((sample s).cfg.hasIrq && (sample s).irqLine && !(sample s).p.i) = true) : dueEvent s = some .irq := by
  simp only [dueEvent, hreset, hnmi, hirq, Bool.false_eq_true, if_false, if_true]

theorem dueEvent_of_nothing (hreset : resetRequested s = false)
    (hnmi : ((sample s).cfg.hasNmi && (sample s).nmiPending) = false)
    (hirq : ((sample s).cfg.hasIrq && (sample s).irqLine && !(sample s).p.i) = false) : dueEvent s = none := by
  simp only [dueEvent, hreset, hnmi, hirq, Bool.false_eq_true, if_false]

/-- At a boundary where an event is due the step takes it, in the state sampled there. -/
theorem step_of_event {e : Event} (h : dueEvent s = some e) : step s = finish (takeEvent e (sample s)) := by
  simp only [step, h]

end

/-- Settles O8, from the schedule having ended or having an entry for this boundary. -/
theorem samplingReadsTheInputs : Obligations.SamplingReadsTheInputs := fun _ =>
  ⟨fun h => ⟨sample_of_ended h, resetRequested_of_ended h⟩,
    fun _ _ h => ⟨resetRequested_of_entry h, sample_of_entry h⟩⟩

/-- Settles O7: which event is due, or that none is, decides what the step does. -/
theorem boundaryTakesEventByPriority : Obligations.BoundaryTakesEventByPriority := by
  rintro s _ rfl
  exact ⟨fun hreset => step_of_event (dueEvent_of_reset hreset),
    fun hreset hnmi => step_of_event (dueEvent_of_nmi hreset hnmi),
    fun hreset hnmi hirq => step_of_event (dueEvent_of_irq hreset hnmi hirq),
    fun hreset hnmi hirq => step_of_no_event (dueEvent_of_nothing hreset hnmi hirq)⟩

/-! ### The events (R229 to R231) -/

section
variable {u : State}

/-- The entry of IRQ or NMI with no device at its five addresses: SP, I, PC and the three stack places. -/
theorem takeInterrupt_spec {vector : Word}
    (hio : accessible u [pushSlot u 0, pushSlot u 1, pushSlot u 2, vector, vector + 1])
    (hv : 512 ≤ vector.toNat) (hv' : 512 ≤ (vector + 1).toNat) :
    ∃ m, takeInterrupt vector u = .ok { u with
        sp := u.sp - 3, p := { u.p with i := true }
        pc := word (u.byteAt vector) (u.byteAt (vector + 1)), mem := m } ∧
      (u.withMem m).byteAt (pushSlot u 0) = storedByte u (pushSlot u 0) (hiByte u.pc) ∧
      (u.withMem m).byteAt (pushSlot u 1) = storedByte u (pushSlot u 1) (loByte u.pc) ∧
      (u.withMem m).byteAt (pushSlot u 2) = storedByte u (pushSlot u 2) (u.p.byteWith false) ∧
      sameMemoryOutside [pushSlot u 0, pushSlot u 1, pushSlot u 2] u (u.withMem m) := by
  obtain ⟨m, henter, hhigh, hlow, hstatus, hout, -⟩ := enterHandler_spec u.pc (u.p.byteWith false) hio hv hv'
  exact ⟨m, henter, hhigh, hlow, hstatus, hout⟩

theorem takeIrq_ok {t : State} :
    takeIrq u = .ok t ↔ ∃ v, takeInterrupt breakVector u = .ok v ∧ t = v.withClk (v.clk + 7) := by
  unfold takeIrq
  simp [bind_ok, interruptCycles, @eq_comm _ t]

theorem takeNmi_ok {t : State} :
    takeNmi u = .ok t ↔
      ∃ v, takeInterrupt nmiVector { u with nmiPending := false } = .ok v ∧ t = v.withClk (v.clk + 7) := by
  unfold takeNmi
  simp [bind_ok, interruptCycles, @eq_comm _ t]

theorem takeReset_ok {t : State} :
    takeReset u = .ok t ↔ ∃ v, enterReset u = .ok v ∧ t = v.withClk (v.clk + Config.resetCycles) := by
  unfold takeReset
  simp [bind_ok, @eq_comm _ t]

theorem takeIrq_reaches {t : State} (h : takeIrq u = .ok t) :
    accessible u [pushSlot u 0, pushSlot u 1, pushSlot u 2, 0xFFFE, 0xFFFF] := by
  obtain ⟨v, hv, -⟩ := takeIrq_ok.1 h
  exact enterHandler_reaches hv

/-- IRQ with no device at its five addresses. -/
theorem takeIrq_spec (hio : accessible u [pushSlot u 0, pushSlot u 1, pushSlot u 2, 0xFFFE, 0xFFFF]) :
    ∃ m, takeIrq u = .ok { u with
        sp := u.sp - 3, p := { u.p with i := true }
        pc := word (u.byteAt 0xFFFE) (u.byteAt 0xFFFF), mem := m, clk := u.clk + 7 } ∧
      (u.withMem m).byteAt (pushSlot u 0) = storedByte u (pushSlot u 0) (hiByte u.pc) ∧
      (u.withMem m).byteAt (pushSlot u 1) = storedByte u (pushSlot u 1) (loByte u.pc) ∧
      (u.withMem m).byteAt (pushSlot u 2) = storedByte u (pushSlot u 2) (u.p.byteWith false) ∧
      sameMemoryOutside [pushSlot u 0, pushSlot u 1, pushSlot u 2] u (u.withMem m) := by
  obtain ⟨m, henter, hbytes⟩ := takeInterrupt_spec (vector := breakVector) hio (by decide) (by decide)
  exact ⟨m, takeIrq_ok.2 ⟨_, henter, rfl⟩, hbytes⟩

end

/-- Settles O9: the step is the entry of IRQ. -/
theorem irqEntersHandler : Obligations.IrqEntersHandler := by
  rintro s _ hdue rfl hio
  obtain ⟨m, htake, hbytes⟩ := takeIrq_spec hio
  exact ⟨_, (step_of_event hdue).trans (finish_next.2 htake), rfl, hbytes⟩

/-- Settles O10: the step is the entry of an interrupt from a state whose latch is cleared. -/
theorem nmiEntersHandler : Obligations.NmiEntersHandler := by
  rintro s u hdue rfl hio
  obtain ⟨m, henter, hbytes⟩ :=
    takeInterrupt_spec (u := { sample s with nmiPending := false }) (vector := nmiVector) hio (by decide) (by decide)
  have htake := takeNmi_ok.2 ⟨_, henter, rfl⟩
  exact ⟨_, (step_of_event hdue).trans (finish_next.2 htake), rfl, hbytes⟩

/-- Settles O11: the registers as RESET establishes them; bit 5 is 1 in the byte of any P. -/
theorem resetEventLoadsVector : Obligations.ResetEventLoadsVector := by
  rintro s _ hdue rfl hio
  obtain ⟨hlow, hhigh⟩ := accessible_resetVector.1 hio
  have htake := takeReset_ok.2 ⟨_, enterReset_ok.2 ⟨hlow, hhigh, rfl⟩, rfl⟩
  have hbit5 (p : Status) : p.toByte.getLsbD 5 = true := by
    obtain ⟨-, -, h, -⟩ := byteWith_getLsbD p p.b
    exact h
  exact ⟨_, (step_of_event hdue).trans (finish_next.2 htake), rfl, rfl, hbit5 _, rfl, rfl, rfl, rfl, rfl⟩

/-- Sampling moves no place of the stack. -/
theorem pushSlot_sample (s : State) (k : Nat) : pushSlot (sample s) k = pushSlot s k := by
  simp only [pushSlot, sample_sp]

/-- Settles O42: the entry that answers shows its addresses to be no device's, and the RTI pulls what it stored there. -/
theorem rtiUndoesIrq : Obligations.RtiUndoesIrq := by
  rintro s t u hdue hu hstep hw0 hw1 hw2
  have hwritable (k : Nat) (h : s.isWritable (pushSlot s k) = true) : u.isWritable (pushSlot u k) = true := by
    rw [hu, sample_isWritable, pushSlot_sample, h]
  have htake : takeIrq u = .ok t := by
    rw [hu, ← finish_next, ← hstep]
    exact (step_of_event hdue).symm
  have hio := takeIrq_reaches htake
  obtain ⟨m, hspec, hhigh, hlow, hstatus, -⟩ := takeIrq_spec hio
  obtain rfl := Except.ok.inj (hspec.symm.trans htake)
  rw [storedByte_of_isWritable _ (hwritable 0 hw0)] at hhigh
  rw [storedByte_of_isWritable _ (hwritable 1 hw1)] at hlow
  rw [storedByte_of_isWritable _ (hwritable 2 hw2)] at hstatus
  have hslots : accessible u [pushSlot u 0, pushSlot u 1, pushSlot u 2] :=
    fun a ha => hio a (List.mem_append_left [0xFFFE, 0xFFFF] ha)
  have hrti := exec_rti_of_pushed (s := { u with clk := u.clk + 7 }) { u.p with i := true }
    (word (u.byteAt 0xFFFE) (u.byteAt 0xFFFF)) hslots hhigh hlow hstatus
  rw [pulledStatus_byteWith] at hrti
  exact hrti

end Sys2Proof.Machine

/-! The statements of 70_reset_and_hazards.md: the total of cycles reaches nothing else, and the cycles of the indexed
forms. -/

namespace Sys2Proof.Machine

/-! ### Computations from a state with a larger total (R274) -/

/-- The state with `k` more in its ghost total. -/
def State.addCycles (k : Nat) (s : State) : State := s.withClk (s.clk + k)

/-- `y` answers `d` of what `x` answers, and is refused as `x` is. -/
def Tracks {α : Type} (d : α → α) (x y : Result α) : Prop := y = x.map d

namespace Tracks

theorem pure {α : Type} {d : α → α} (a : α) : Tracks d (pure a) (pure (d a)) := rfl

theorem throw {α : Type} {d : α → α} (r : Refusal) : Tracks d (throw r) (throw r) := rfl

/-- Two sequences whose parts track each other. -/
theorem bind {α β : Type} {d : α → α} {e : β → β} {x y : Result α} {f g : α → Result β} (hxy : Tracks d x y)
    (hfg : ∀ a, Tracks e (f a) (g (d a))) : Tracks e (x >>= f) (y >>= g) := by
  subst hxy
  cases x with
  | error r => exact .throw r
  | ok a => exact hfg a

/-- Two sequences with one first part: a read, which answers the same whatever the total. -/
theorem bind_same {α β : Type} {e : β → β} {x : Result α} {f g : α → Result β} (hfg : ∀ a, Tracks e (f a) (g a)) :
    Tracks e (x >>= f) (x >>= g) := by
  cases x with
  | error r => exact .throw r
  | ok a => exact hfg a

end Tracks

/-- Tracked outcomes differ by a charge of the cycles. -/
theorem finish_of_tracks {k : Nat} {x y : Result State} (h : Tracks (State.addCycles k) x y) :
    finish y = chargeCycles k (finish x) := by
  subst h
  cases x <;> rfl

/-! ### The operations that answer a state (R57, R180, R181, R223, R226) -/

section
variable {s : State} {k : Nat}

theorem store_tracks (addr : Word) (v : Byte) :
    Tracks (State.addCycles k) (store addr v s) (store addr v (s.addCycles k)) := by
  have hio : (s.addCycles k).isIo addr = s.isIo addr := rfl
  have hw : (s.addCycles k).isWritable addr = s.isWritable addr := rfl
  unfold store
  rw [hio, hw]
  split
  · exact .throw _
  · split <;> exact .pure _

theorem push_tracks (v : Byte) : Tracks (State.addCycles k) (push v s) (push v (s.addCycles k)) :=
  .bind (store_tracks _ v) fun _ => .pure _

theorem pushWord_tracks (w : Word) : Tracks (State.addCycles k) (pushWord w s) (pushWord w (s.addCycles k)) :=
  .bind (push_tracks _) fun _ => push_tracks _

/-- A pull answers the same byte. -/
theorem pull_tracks : Tracks (Prod.map id (State.addCycles k)) (pull s) (pull (s.addCycles k)) :=
  .bind_same (x := load (stackAddr (s.sp + 1)) s) fun _ => .pure _

/-- Pulling a word answers the same word. -/
theorem pullWord_tracks : Tracks (Prod.map id (State.addCycles k)) (pullWord s) (pullWord (s.addCycles k)) :=
  .bind pull_tracks fun _ => .bind pull_tracks fun _ => .pure _

theorem enterHandler_tracks (ret : Word) (status : Byte) (vector : Word) :
    Tracks (State.addCycles k) (enterHandler ret status vector s) (enterHandler ret status vector (s.addCycles k)) :=
  .bind (pushWord_tracks ret) fun _ => .bind (push_tracks status) fun u =>
    .bind_same (x := load16 vector (u.withP { u.p with i := true })) fun _ => .pure _

theorem returnFromHandler_tracks :
    Tracks (State.addCycles k) (returnFromHandler s) (returnFromHandler (s.addCycles k)) :=
  .bind pull_tracks fun _ => .bind pullWord_tracks fun _ => .pure _

/-! ### The meanings of the instructions -/

/-- ADC and SBC: the digits and the flags decide, which the total does not reach. -/
theorem arithmetic_tracks {result : State → Byte → Sum} (hresult : ∀ v, result (s.addCycles k) v = result s v)
    (src : Source) : Tracks (State.addCycles k) (arithmetic result src s) (arithmetic result src (s.addCycles k)) := by
  refine .bind_same (x := operandByte src s) fun v => ?_
  have hdigits : refusesBcd (s.addCycles k) v = refusesBcd s v := rfl
  dsimp only
  rw [hdigits, hresult]
  split
  · exact .throw _
  · exact .pure _

/-- A meaning that reads its operand byte and then writes registers. -/
theorem reading_tracks {src : Source} {f g : Byte → Result State} (h : ∀ v, Tracks (State.addCycles k) (f v) (g v)) :
    Tracks (State.addCycles k) (operandByte src s >>= f) (operandByte src (s.addCycles k) >>= g) :=
  .bind_same (x := operandByte src s) h

/-- A meaning that stores a byte at the address of its format. -/
theorem storing_tracks (m : MemMode) (v : Byte) (n : Nat) :
    Tracks (State.addCycles k) (effectiveAddress m s >>= fun a => store a v s >>= fun t => pure (t.advance n))
      (effectiveAddress m (s.addCycles k) >>= fun a => store a v (s.addCycles k) >>= fun t => pure (t.advance n)) :=
  .bind_same (x := effectiveAddress m s) fun _ => .bind (store_tracks _ v) fun _ => .pure _

theorem modifyMemory_tracks (f : Byte → Bool → Shifted) (m : MemMode) :
    Tracks (State.addCycles k) (modifyMemory f m s) (modifyMemory f m (s.addCycles k)) :=
  .bind_same (x := effectiveAddress m s) fun a => .bind_same (x := load a s) fun v =>
    .bind (store_tracks (s := s.withP (setNZC s.p (f v s.p.c).value (f v s.p.c).carry)) a _) fun _ => .pure _

theorem branch_tracks (m : Mnemonic) (rel : Byte) :
    Tracks (State.addCycles k) (branch m rel s) (branch m rel (s.addCycles k)) := by
  rw [branch_eq, branch_eq]
  exact .pure _

theorem jumpIndirect_tracks (lo hi : Byte) :
    Tracks (State.addCycles k) (jumpIndirect lo hi s) (jumpIndirect lo hi (s.addCycles k)) :=
  .bind_same (x := indirectTarget lo hi s) fun _ => .pure _

/-- No instruction reads the total, so each carries it through. -/
theorem meaning_tracks (i : Instr) :
    Tracks (State.addCycles k) (meaning i.mnemonic i.operand s) (meaning i.mnemonic i.operand (s.addCycles k)) := by
  cases i with
  | ldaImm | ldaZp | ldaZpX | ldaAbs | ldaAbsX | ldaAbsY | ldaIndX | ldaIndY
  | ldxImm | ldxZp | ldxZpY | ldxAbs | ldxAbsY | ldyImm | ldyZp | ldyZpX | ldyAbs | ldyAbsX
  | andImm | andZp | andZpX | andAbs | andAbsX | andAbsY | andIndX | andIndY
  | oraImm | oraZp | oraZpX | oraAbs | oraAbsX | oraAbsY | oraIndX | oraIndY
  | eorImm | eorZp | eorZpX | eorAbs | eorAbsX | eorAbsY | eorIndX | eorIndY
  | cmpImm | cmpZp | cmpZpX | cmpAbs | cmpAbsX | cmpAbsY | cmpIndX | cmpIndY
  | cpxImm | cpxZp | cpxAbs | cpyImm | cpyZp | cpyAbs | bitZp | bitAbs => exact reading_tracks fun _ => .pure _
  | adcImm | adcZp | adcZpX | adcAbs | adcAbsX | adcAbsY | adcIndX | adcIndY
  | sbcImm | sbcZp | sbcZpX | sbcAbs | sbcAbsX | sbcAbsY | sbcIndX | sbcIndY =>
    exact arithmetic_tracks (fun _ => rfl) _
  | staZp | staZpX | staAbs | staAbsX | staAbsY | staIndX | staIndY
  | stxZp | stxZpY | stxAbs | styZp | styZpX | styAbs => exact storing_tracks _ _ _
  | lsrZp | lsrZpX | lsrAbs | lsrAbsX | aslZp | aslZpX | aslAbs | aslAbsX | rolZp | rolZpX | rolAbs | rolAbsX
  | rorZp | rorZpX | rorAbs | rorAbsX | incZp | incZpX | incAbs | incAbsX | decZp | decZpX | decAbs | decAbsX =>
    exact modifyMemory_tracks _ _
  | bmi | bpl | bcc | bcs | beq | bne | bvs | bvc => exact branch_tracks _ _
  | jmpInd => exact jumpIndirect_tracks _ _
  | jsr => exact .bind (pushWord_tracks _) fun _ => .pure _
  | rts => exact .bind pullWord_tracks fun _ => .pure _
  | pha | php => exact .bind (push_tracks _) fun _ => .pure _
  | pla | plp => exact .bind pull_tracks fun _ => .pure _
  | brk => exact enterHandler_tracks (s := s.withP (breakStatus s.cfg.bModel s.p)) _ _ _
  | rti => exact returnFromHandler_tracks
  | jmpAbs | sec | clc | sei | cli | sed | cld | clv | inx | iny | dex | dey | tax | txa | tay | tya | txs | tsx | nop
  | lsrAcc | aslAcc | rolAcc | rorAcc => exact .pure _

theorem exec_addCycles (i : Instr) : exec i (s.addCycles k) = chargeCycles k (exec i s) := by
  rw [exec_eq_meaning, exec_eq_meaning]
  exact finish_of_tracks (meaning_tracks i)

/-! ### One step -/

theorem addCycles_comm (n : Nat) : (s.addCycles n).addCycles k = (s.addCycles k).addCycles n := by
  simp only [State.addCycles, State.withClk, Nat.add_right_comm]

/-- Two charges, in either order. -/
theorem chargeCycles_comm (n : Nat) (r : StepOutcome) :
    chargeCycles n (chargeCycles k r) = chargeCycles k (chargeCycles n r) := by
  cases r with
  | next t => exact congrArg Host.Outcome.next (addCycles_comm (s := t) k)
  | fault | refused => rfl

theorem fetch_addCycles : fetch (s.addCycles k) = fetch s := rfl

theorem cycles_addCycles (i : Instr) : cycles i (s.addCycles k) = cycles i s := rfl

/-- The cycles of the instruction come on top of either total. -/
theorem runInstruction_addCycles : runInstruction (s.addCycles k) = chargeCycles k (runInstruction s) := by
  unfold runInstruction
  rw [fetch_addCycles]
  cases fetch s with
  | error r => rfl
  | ok i =>
    dsimp only
    rw [cycles_addCycles, exec_addCycles, chargeCycles_comm]

/-- The cycles of an event come on top of either total. -/
theorem takeEvent_tracks (e : Event) :
    Tracks (State.addCycles k) (takeEvent e s) (takeEvent e (s.addCycles k)) := by
  have charge (n : Nat) (t : State) :
      Tracks (State.addCycles k) (pure (t.addCycles n)) (pure ((t.addCycles k).addCycles n)) := by
    rw [addCycles_comm]
    exact .pure _
  cases e with
  | reset =>
    have hreset : Tracks (State.addCycles k) (enterReset s) (enterReset (s.addCycles k)) :=
      .bind_same (x := load16 resetVector s) fun _ => .pure _
    exact .bind hreset (charge _)
  | nmi => exact .bind (enterHandler_tracks (s := { s with nmiPending := false }) _ _ _) (charge _)
  | irq => exact .bind (enterHandler_tracks _ _ _) (charge _)

theorem sample_addCycles : sample (s.addCycles k) = (sample s).addCycles k := by
  cases henv : s.env with
  | nil => rw [sample_of_ended henv, sample_of_ended (s := s.addCycles k) henv]
  | cons e rest => rw [sample_of_entry henv, sample_of_entry (s := s.addCycles k) henv]; rfl

theorem dueEvent_addCycles : dueEvent (s.addCycles k) = dueEvent s := by
  unfold dueEvent
  rw [sample_addCycles]
  rfl

end

/-- Settles O58: the same event is due, or the same instruction runs, and neither reads the total. -/
theorem cycleTotalChangesNothing : Obligations.CycleTotalChangesNothing := by
  intro s k
  have hdue : dueEvent (s.addCycles k) = dueEvent s := dueEvent_addCycles
  change step (s.addCycles k) = chargeCycles k (step s)
  cases h : dueEvent s with
  | none =>
    rw [step_of_no_event h, step_of_no_event (hdue.trans h), sample_addCycles, runInstruction_addCycles]
  | some e =>
    rw [step_of_event h, step_of_event (hdue.trans h), sample_addCycles]
    exact finish_of_tracks (takeEvent_tracks e)

/-! ### The rows of the execution-time table, by family (R271, R272) -/

/-- The instructions that read one byte and have an indexed form. -/
def indexedReads : List Mnemonic := [.adc, .and, .cmp, .eor, .lda, .ora, .sbc, .ldx, .ldy]

/-- The cycles of such a read: its format alone decides. -/
def readCycles (m : MemMode) (s : State) : Nat :=
  match m with
  | .zeroPage _ => 3
  | .zeroPageX _ | .zeroPageY _ | .absolute _ _ => 4
  | .absoluteX _ _ | .absoluteY _ _ => 4 + (crossesPage m s).toNat
  | .indirectX _ => 6
  | .indirectY _ => 5 + (crossesPage m s).toNat

theorem cycles_of_read {i : Instr} {m : MemMode} (hm : i.mnemonic ∈ indexedReads) (ho : i.operand = .memory m)
    (s : State) : cycles i s = readCycles m s := by
  cases i with
  | ldaZp | ldaZpX | ldaAbs | ldaAbsX | ldaAbsY | ldaIndX | ldaIndY
  | adcZp | adcZpX | adcAbs | adcAbsX | adcAbsY | adcIndX | adcIndY
  | sbcZp | sbcZpX | sbcAbs | sbcAbsX | sbcAbsY | sbcIndX | sbcIndY
  | andZp | andZpX | andAbs | andAbsX | andAbsY | andIndX | andIndY
  | oraZp | oraZpX | oraAbs | oraAbsX | oraAbsY | oraIndX | oraIndY
  | eorZp | eorZpX | eorAbs | eorAbsX | eorAbsY | eorIndX | eorIndY
  | cmpZp | cmpZpX | cmpAbs | cmpAbsX | cmpAbsY | cmpIndX | cmpIndY
  | ldxZp | ldxZpY | ldxAbs | ldxAbsY | ldyZp | ldyZpX | ldyAbs | ldyAbsX => cases ho; rfl
  | ldaImm | adcImm | sbcImm | andImm | oraImm | eorImm | cmpImm | ldxImm | ldyImm => cases ho
  | _ => simp [Instr.mnemonic, indexedReads] at hm

/-- The cycles of STA: no format pays for a crossing. -/
def staCycles : MemMode → Nat
  | .zeroPage _ => 3
  | .zeroPageX _ | .zeroPageY _ | .absolute _ _ => 4
  | .absoluteX _ _ | .absoluteY _ _ => 5
  | .indirectX _ | .indirectY _ => 6

theorem cycles_of_sta {i : Instr} {m : MemMode} (hm : i.mnemonic = .sta) (ho : i.operand = .memory m) (s : State) :
    cycles i s = staCycles m := by
  cases i with
  | staZp | staZpX | staAbs | staAbsX | staAbsY | staIndX | staIndY => cases ho; rfl
  | _ => cases hm

/-- A read-modify-write indexed by X takes the same whether it crosses a page or not. -/
theorem cycles_of_modify_absoluteX {i : Instr} {lo hi : Byte}
    (hm : i.mnemonic ∈ ([.asl, .lsr, .rol, .ror, .inc, .dec] : List Mnemonic))
    (ho : i.operand = .memory (.absoluteX lo hi)) (s : State) : cycles i s = 7 := by
  cases i with
  | aslAbsX | lsrAbsX | rolAbsX | rorAbsX | incAbsX | decAbsX => rfl
  | ldaAbsX | staAbsX | adcAbsX | sbcAbsX | andAbsX | oraAbsX | eorAbsX | cmpAbsX | ldyAbsX =>
    simp [Instr.mnemonic] at hm
  | _ => cases ho

/-! ### Crossing a page (R114) -/

theorem hiByte_toNat (w : Word) : (hiByte w).toNat = w.toNat / 256 := by
  have hw := w.isLt
  simp only [hiByte, BitVec.toNat_setWidth, BitVec.toNat_ushiftRight, Nat.shiftRight_eq_div_pow]
  omega

/-- Indexing stays in the page of its base, as a sum of numbers. -/
theorem hiByte_indexed_eq (lo hi r : Byte) :
    hiByte (word lo hi + zext16 r) = hi ↔ (hi.toNat * 256 + lo.toNat + r.toNat) % 65536 / 256 = hi.toNat := by
  rw [← BitVec.toNat_inj, hiByte_toNat, add_zext16_toNat, word_toNat]

/-- A count with the penalty of a page that differs. -/
theorem add_penalty (n : Nat) (a b : Byte) : n + (a != b).toNat = if a = b then n else n + 1 := by
  by_cases h : a = b
  · rw [if_pos h, bne_eq_false_iff_eq.2 h]; rfl
  · rw [if_neg h, bne_iff_ne.2 h]; rfl

/-- The penalty of an absolute base indexed by a register, as a condition on numbers. -/
theorem add_indexedPenalty (n : Nat) (lo hi r : Byte) :
    n + (hiByte (word lo hi + zext16 r) != hi).toNat =
      if (hi.toNat * 256 + lo.toNat + r.toNat) % 65536 / 256 = hi.toNat then n else n + 1 := by
  simp only [← hiByte_indexed_eq]
  exact add_penalty _ _ _

/-- Settles O59, from the rows of the three families; each format that pays compares two high bytes. -/
theorem indexingPenaltyOfReads : Obligations.IndexingPenaltyOfReads := by
  rintro i s lo hi z _ rfl
  refine ⟨fun hm => ⟨fun ho => ?absoluteX, fun ho => ?absoluteY, fun ho => ?indirectY, ?zeroPage⟩,
    fun hm => ⟨?staAbsolute, fun ho => cycles_of_sta hm ho s⟩, fun hm ho => cycles_of_modify_absoluteX hm ho s⟩
  case absoluteX => exact (cycles_of_read hm ho s).trans (add_indexedPenalty 4 lo hi s.x)
  case absoluteY => exact (cycles_of_read hm ho s).trans (add_indexedPenalty 4 lo hi s.y)
  case indirectY => exact (cycles_of_read hm ho s).trans (add_penalty 5 _ _)
  case zeroPage => rintro (ho | ho) <;> exact cycles_of_read hm ho s
  case staAbsolute => rintro (ho | ho) <;> exact cycles_of_sta hm ho s

end Sys2Proof.Machine
